-- ==== Sys2Proof/Word.lean ====
section
/-! DEFINITION. The widths the spec fixes: link bytes (30_encoding.md R80), event entries (R87), stimulus words
(R92), the wide timestamp and the smoothed interval (00_scope.md R9: TSW = SMW = 32), the epoch tag (EPW = 12). -/

namespace Sys2Proof

/-- A link byte, a command byte, a stimulus argument, a wheel speed (8 bits). -/
abbrev Byte := BitVec 8

/-- A stimulus word of format S (30_encoding.md R92). -/
abbrev StimulusWord := BitVec 32

/-- An event entry of format E (30_encoding.md R87). -/
abbrev EntryWord := BitVec 24

/-- A wide timestamp, an interval between two, or the smoothed interval (TSW = SMW = 32, 00_scope.md R9). -/
abbrev Ticks := BitVec 32

/-- The timer's epoch tag (EPW = 12, 00_scope.md R9). -/
abbrev Epoch := BitVec 12

end Sys2Proof
end

