-- ==== Sys2Proof/Syntax.lean ====
section
/-! DEFINITION. The instructions: one constructor per row of spec/opcode_table.json. Three formats: stimulus words
(S, 30_encoding.md R93), event entries (E, R89 and R90), link bytes (L, R81 to R84). -/

namespace Sys2Proof

/-- The eleven command kinds, in the order of 00_scope.md R18. -/
inductive CmdKind where
  | stop | rotCw90 | rotCw45 | rotCcw90 | rotCcw45 | fwdHalf | fwdFull | revHalf | revFull | align | searchTape
  deriving DecidableEq, Repr

/-- Every kind, in the order of R18 (which is the order of CMD_IN's operand, 30_encoding.md R94). -/
def CmdKind.all : List CmdKind :=
  [.stop, .rotCw90, .rotCw45, .rotCcw90, .rotCcw45, .fwdHalf, .fwdFull, .revHalf, .revFull, .align, .searchTape]

/-- The sources of a BEACON_DETECTED entry (30_encoding.md R90). -/
inductive BeaconSource where
  | engine | sensor | synthetic
  deriving DecidableEq, Repr

/-- The sources of a TAPE_DETECTED entry (30_encoding.md R90: no ENGINE form). -/
inductive TapeSource where
  | sensor | synthetic
  deriving DecidableEq, Repr

/-- A well-formed event entry, its fields pulled out (30_encoding.md R88 to R91). -/
inductive Entry where
  | newCommand (c : Byte)
  | beaconDetected (src : BeaconSource)
  | tapeDetected (src : TapeSource)
  | timeout (tag : Epoch)
  deriving DecidableEq, Repr

/-- The instructions of the block. -/
inductive Instr where
  -- format S: the stimulus operations (30_encoding.md R93)
  | cnt
  | edge
  | capIsr
  | ovfIsr
  | diag
  | cmdIn (k : CmdKind)
  | poll
  | pollNoisy (x : Byte)
  | dispatch
  | tmrTick
  | beaconPin (v : Bool)
  | tapePin (v : Bool)
  | resetM
  | resetC
  -- format E: the event entries (30_encoding.md R89, R90)
  | newCommand (c : Byte)
  | beaconEngine
  | beaconSensor
  | beaconSynthetic
  | tapeSensor
  | tapeSynthetic
  | timeout (tag : Epoch)
  -- format L: the link bytes (30_encoding.md R81 to R84)
  | flag
  | cmdStop
  | cmdRotCw90
  | cmdRotCw45
  | cmdRotCcw90
  | cmdRotCcw45
  | cmdFwdHalf
  | cmdFwdFull
  | cmdRevHalf
  | cmdRevFull
  | cmdAlign
  | cmdSearchTape
  deriving DecidableEq, Repr

/-- The instruction that a well-formed entry is. -/
def Instr.ofEntry : Entry → Instr
  | .newCommand c => .newCommand c
  | .beaconDetected .engine => .beaconEngine
  | .beaconDetected .sensor => .beaconSensor
  | .beaconDetected .synthetic => .beaconSynthetic
  | .tapeDetected .sensor => .tapeSensor
  | .tapeDetected .synthetic => .tapeSynthetic
  | .timeout tag => .timeout tag

/-- The instruction that the link byte `CODE(k)` is. -/
def Instr.ofKind : CmdKind → Instr
  | .stop => .cmdStop
  | .rotCw90 => .cmdRotCw90
  | .rotCw45 => .cmdRotCw45
  | .rotCcw90 => .cmdRotCcw90
  | .rotCcw45 => .cmdRotCcw45
  | .fwdHalf => .cmdFwdHalf
  | .fwdFull => .cmdFwdFull
  | .revHalf => .cmdRevHalf
  | .revFull => .cmdRevFull
  | .align => .cmdAlign
  | .searchTape => .cmdSearchTape

end Sys2Proof
end

