-- ==== Sys2Proof/Config.lean ====
section
/-! DEFINITION. The implementation parameters of 00_scope.md R9, as plain data that State holds and no step changes
(log 2), the reference configuration RC1, and the free draws (log 6, 7) as constants without a body. -/

namespace Sys2Proof

/-- The sense of the spin-search (00_scope.md R9, SPIN_DIR). -/
inductive SpinDir where
  | cw | ccw
  deriving DecidableEq, Repr

/-- The command code table `CODE : kind -> byte` (30_encoding.md R83): a parameter, one byte per kind. -/
structure CodeTable where
  stop : Byte
  rotCw90 : Byte
  rotCw45 : Byte
  rotCcw90 : Byte
  rotCcw45 : Byte
  fwdHalf : Byte
  fwdFull : Byte
  revHalf : Byte
  revFull : Byte
  align : Byte
  searchTape : Byte
  deriving DecidableEq, Repr

/-- `CODE(k)` (30_encoding.md R83). -/
def CodeTable.byte (t : CodeTable) : CmdKind → Byte
  | .stop => t.stop
  | .rotCw90 => t.rotCw90
  | .rotCw45 => t.rotCw45
  | .rotCcw90 => t.rotCcw90
  | .rotCcw45 => t.rotCcw45
  | .fwdHalf => t.fwdHalf
  | .fwdFull => t.fwdFull
  | .revHalf => t.revHalf
  | .revFull => t.revFull
  | .align => t.align
  | .searchTape => t.searchTape

/-- The parameters of 00_scope.md R9 that a rule reads. P_POLL, P_DIAG and TICK_PERIOD are timing only and no rule
reads them (log 16). -/
structure Config where
  /-- `W`: width of the narrow capture counter. -/
  w : Nat
  /-- `SRC_CLK`, in Hz. -/
  srcClk : Nat
  /-- `PRESCALE`. -/
  prescale : Nat
  /-- `CAP_DIV`. -/
  capDiv : Nat
  /-- `TOL`, in Hz. -/
  tol : Nat
  /-- `CODE`. -/
  code : CodeTable
  /-- `QDEPTH`. -/
  qdepth : Nat
  /-- `T_ROT_45`, in ticks. -/
  tRot45 : Nat
  /-- `T_ROT_90`, in ticks. -/
  tRot90 : Nat
  /-- `T_ALIGN`, in ticks. -/
  tAlign : Nat
  /-- `T_SEARCH`, in ticks. -/
  tSearch : Nat
  /-- `TCW`: width of the action-timer down-counter. -/
  tcw : Nat
  /-- `DUTY_MAX`. -/
  dutyMax : Byte
  /-- `DUTY_HALF`. -/
  dutyHalf : Byte
  /-- `DUTY_FULL`. -/
  dutyFull : Byte
  /-- `DUTY_ROT`. -/
  dutyRot : Byte
  /-- `DUTY_SPIN`. -/
  dutySpin : Byte
  /-- `DUTY_SEARCH`. -/
  dutySearch : Byte
  /-- `SPIN_DIR`. -/
  spinDir : SpinDir
  /-- `SUPPRESS_EQUAL_AFTER_FLAG`. -/
  suppressEqualAfterFlag : Bool
  /-- `LINK_NOISE`. -/
  linkNoise : Bool
  deriving DecidableEq, Repr

/-- `FLAG`, the new-command marker (30_encoding.md R82; fixed). -/
def Config.flagByte : Byte := 0xFF#8

/-- `F_TARGET`, in Hz (00_scope.md R9; fixed, an unaudited literal). -/
def Config.fTarget : Nat := 1427

/-- `CODE` satisfies 30_encoding.md R83: (a) injective, (b) never 0xFF, (c) CODE(FWD_FULL) = 0x09. -/
abbrev CodeTable.Legal (t : CodeTable) : Prop :=
  (CmdKind.all.map t.byte).Nodup ∧ (∀ k ∈ CmdKind.all, t.byte k ≠ Config.flagByte) ∧ t.fwdFull = 0x09#8

/-- The constraints of 00_scope.md R9. `QDEPTH < 2^EPW` with EPW = 12; `2^TCW` exceeds every T_ value; every duty
is at most DUTY_MAX. -/
abbrev Config.Legal (c : Config) : Prop :=
  (2 ≤ c.w ∧ c.w < 32) ∧
  (1 ≤ c.srcClk ∧ 1 ≤ c.prescale ∧ 1 ≤ c.capDiv) ∧
  (1 ≤ c.tol ∧ c.tol ≤ Config.fTarget) ∧
  c.code.Legal ∧
  (1 ≤ c.qdepth ∧ c.qdepth < 2 ^ 12) ∧
  (1 ≤ c.tRot45 ∧ 1 ≤ c.tRot90 ∧ 1 ≤ c.tAlign ∧ 1 ≤ c.tSearch) ∧
  (c.tRot45 < 2 ^ c.tcw ∧ c.tRot90 < 2 ^ c.tcw ∧ c.tAlign < 2 ^ c.tcw ∧ c.tSearch < 2 ^ c.tcw) ∧
  (c.dutyHalf ≤ c.dutyMax ∧ c.dutyFull ≤ c.dutyMax ∧ c.dutyRot ≤ c.dutyMax ∧ c.dutySpin ≤ c.dutyMax ∧
    c.dutySearch ≤ c.dutyMax)

/-- `HALF = 2^(W-1)` (00_scope.md R10). -/
def Config.half (c : Config) : Nat := 2 ^ (c.w - 1)

/-- `F_EFF = SRC_CLK div PRESCALE` (00_scope.md R10). -/
def Config.fEff (c : Config) : Nat := c.srcClk / c.prescale

/-- `RCW = TSW - W`, the width of the rollover count (00_scope.md R9). -/
def Config.rcw (c : Config) : Nat := 32 - c.w

/-- The reference assignment of CODE (30_encoding.md R84). PRESUMED by the spec itself but for 0x09
(93_implementation_defined.md G1, log 17): no statement may rest on the others. -/
def CodeTable.rc1 : CodeTable where
  stop := 0x00#8
  rotCw90 := 0x02#8
  rotCw45 := 0x03#8
  rotCcw90 := 0x04#8
  rotCcw45 := 0x05#8
  fwdHalf := 0x08#8
  fwdFull := 0x09#8
  revHalf := 0x10#8
  revFull := 0x11#8
  align := 0x20#8
  searchTape := 0x40#8

/-- The reference configuration RC1 (00_scope.md R9). -/
def Config.rc1 : Config where
  w := 16
  srcClk := 20000000
  prescale := 8
  capDiv := 1
  tol := 20
  code := CodeTable.rc1
  qdepth := 8
  tRot45 := 3
  tRot90 := 6
  tAlign := 10
  tSearch := 10
  tcw := 16
  dutyMax := 100#8
  dutyHalf := 50#8
  dutyFull := 100#8
  dutyRot := 60#8
  dutySpin := 40#8
  dutySearch := 50#8
  spinDir := .cw
  suppressEqualAfterFlag := false
  linkNoise := false

/-- FREE VALUE (10_state.md R46, 70_reset_and_hazards.md R263): the n-th draw, where it is INIT_OK_M. Log 6. -/
opaque Config.initOkM : Nat → Bool

/-- FREE VALUE (10_state.md R46, 70_reset_and_hazards.md R263): the n-th draw, where it is INIT_OK_C. Log 6. -/
opaque Config.initOkC : Nat → Bool

/-- FREE VALUE (41_command_link.md R141): the n-th draw, where it is the byte a halted command chip answers with.
Log 7. -/
opaque Config.haltedByte : Nat → Byte

end Sys2Proof
end

