-- ==== Sys2Proof/WellFormed.lean ====
section
/-! DEFINITION. Which instructions a configuration admits (30_encoding.md R95), and which 24-bit words are event
entries (R91), each written from its own rule and not from the decoder. -/

namespace Sys2Proof

/-- An instruction is well formed under `c`. The operands' ranges (CMD_IN's kind, the 1-bit levels, the zero fields)
hold by the types of Syntax.lean; what is left is R95's last case: POLL_NOISY is a stimulus only when LINK_NOISE is
true. -/
def Instr.wellFormed (c : Config) : Instr → Bool
  | .pollNoisy _ => c.linkNoise
  | .cnt | .edge | .capIsr | .ovfIsr | .diag | .cmdIn _ | .poll | .dispatch | .tmrTick | .beaconPin _ | .tapePin _
  | .resetM | .resetC | .newCommand _ | .beaconEngine | .beaconSensor | .beaconSynthetic | .tapeSensor
  | .tapeSynthetic | .timeout _ | .flag | .cmdStop | .cmdRotCw90 | .cmdRotCw45 | .cmdRotCcw90 | .cmdRotCcw45
  | .cmdFwdHalf | .cmdFwdFull | .cmdRevHalf | .cmdRevFull | .cmdAlign | .cmdSearchTape => true

/-- 30_encoding.md R91, on the fields of R88 read as numbers: `type` = e div 2^20, `arg` = bits 19..12, `tag` = bits
11..0. -/
def EntryWord.wellFormed (e : EntryWord) : Bool :=
  let type := e.toNat / 2 ^ 20
  let arg := e.toNat / 2 ^ 12 % 2 ^ 8
  let tag := e.toNat % 2 ^ 12
  (type == 1 && tag == 0) ||
  (type == 2 && arg ≤ 2 && tag == 0) ||
  (type == 3 && (arg == 1 || arg == 2) && tag == 0) ||
  (type == 4 && arg == 0)

/-- Ranges of the raw operands of a stimulus word (30_encoding.md R95): its op is 1 to 14, bits 26..8 are 0, CMD_IN's
arg is at most 10, a level is 0 or 1, every other operation but POLL_NOISY has arg 0, and POLL_NOISY needs
LINK_NOISE. -/
def StimulusWord.wellFormed (c : Config) (w : StimulusWord) : Bool :=
  let op := w.toNat / 2 ^ 27
  let zeros := w.toNat / 2 ^ 8 % 2 ^ 19
  let arg := w.toNat % 2 ^ 8
  decide (1 ≤ op ∧ op ≤ 14) && (zeros == 0) &&
  (if op == 6 then decide (arg ≤ 10)
   else if op == 8 then c.linkNoise
   else if op == 11 || op == 12 then decide (arg ≤ 1)
   else arg == 0)

end Sys2Proof
end

