-- ==== Sys2Proof/Decode.lean ====
section
/-! DEFINITION. The decoder, total on every word of the three formats and rejecting by name, and after it the
encoder, written from the same tables (30_encoding.md R80 to R95). No byte order arises (20_memory.md R69): a word
is moved whole. -/

namespace Sys2Proof

/-- Why a word spells no operation. -/
inductive DecodeError where
  /-- A stimulus word whose op is 0x00 or 0x0F to 0x1F (30_encoding.md R95). -/
  | reservedOp (op : BitVec 5)
  /-- A stimulus word with a bit of [26:8] set (R95). -/
  | reservedBits
  /-- A stimulus word whose arg is reserved for its operation (R95). -/
  | badArg (arg : Byte)
  /-- POLL_NOISY where LINK_NOISE is false (R95, 41_command_link.md R146). -/
  | linkNoiseOff
  /-- An event entry whose type is 0x0 or 0x5 to 0xF (R91). -/
  | reservedEventType (type : BitVec 4)
  /-- An event entry whose arg is reserved for its type (R91). -/
  | badEventArg (arg : Byte)
  /-- An event entry other than TIMEOUT whose tag is not 0 (R91). -/
  | badEventTag (tag : Epoch)
  /-- A link byte that is neither 0xFF nor a CODE(k) (R85: INVALID). -/
  | notALinkCode (b : Byte)
  deriving DecidableEq, Repr

/-- A word of one of the three formats (30_encoding.md R80, R87, R92). -/
inductive Encoded where
  | stimulus (w : StimulusWord)
  | entry (e : EntryWord)
  | link (b : Byte)
  deriving DecidableEq, Repr

/-! ### Fields -/

/-- Format S, `op` = bits [31:27] (R92). -/
def stimOp (w : StimulusWord) : BitVec 5 := w.extractLsb' 27 5

/-- Format S, bits [26:8], which must be 0 (R92). -/
def stimZero (w : StimulusWord) : BitVec 19 := w.extractLsb' 8 19

/-- Format S, `arg` = bits [7:0] (R92, R94). -/
def stimArg (w : StimulusWord) : Byte := w.extractLsb' 0 8

/-- Format E, `type` = bits [23:20] (R88). -/
def entryType (e : EntryWord) : BitVec 4 := e.extractLsb' 20 4

/-- Format E, `arg` = bits [19:12] (R88). -/
def entryArg (e : EntryWord) : Byte := e.extractLsb' 12 8

/-- Format E, `tag` = bits [11:0] (R88). -/
def entryTag (e : EntryWord) : Epoch := e.extractLsb' 0 12

/-! ### The link byte -/

/-- The classes of a received link byte (30_encoding.md R81). -/
inductive LinkClass where
  | flag
  | cmd (k : CmdKind)
  | invalid
  deriving DecidableEq, Repr

/-- `classify(b)` (30_encoding.md R81). -/
def classify (t : CodeTable) (b : Byte) : LinkClass :=
  if b = Config.flagByte then .flag
  else
    match CmdKind.all.find? (fun k => t.byte k == b) with
    | some k => .cmd k
    | none => .invalid

/-- The instruction a link byte is; an INVALID byte is none (R85). -/
def decodeLink (t : CodeTable) (b : Byte) : Except DecodeError Instr :=
  match classify t b with
  | .flag => .ok .flag
  | .cmd k => .ok (.ofKind k)
  | .invalid => .error (.notALinkCode b)

/-! ### The event entry -/

/-- An entry that must carry tag 0 (R88, R91). -/
def withTagZero (tag : Epoch) (e : Entry) : Except DecodeError Entry :=
  if tag = 0#12 then .ok e else .error (.badEventTag tag)

/-- The entry a 24-bit word is; the reserved forms of 30_encoding.md R91 are none. -/
def decodeEntry (e : EntryWord) : Except DecodeError Entry :=
  match (entryType e).toNat with
  | 0x1 => withTagZero (entryTag e) (.newCommand (entryArg e))
  | 0x2 =>
    match (entryArg e).toNat with
    | 0x00 => withTagZero (entryTag e) (.beaconDetected .engine)
    | 0x01 => withTagZero (entryTag e) (.beaconDetected .sensor)
    | 0x02 => withTagZero (entryTag e) (.beaconDetected .synthetic)
    | _ => .error (.badEventArg (entryArg e))
  | 0x3 =>
    match (entryArg e).toNat with
    | 0x01 => withTagZero (entryTag e) (.tapeDetected .sensor)
    | 0x02 => withTagZero (entryTag e) (.tapeDetected .synthetic)
    | _ => .error (.badEventArg (entryArg e))
  | 0x4 => if entryArg e = 0#8 then .ok (.timeout (entryTag e)) else .error (.badEventArg (entryArg e))
  | _ => .error (.reservedEventType (entryType e))

/-! ### The stimulus word -/

/-- An operation that takes no argument (R95: `arg != 0` is ill-formed). -/
def withArgZero (arg : Byte) (i : Instr) : Except DecodeError Instr :=
  if arg = 0#8 then .ok i else .error (.badArg arg)

/-- A level operand, bit 0 of arg (R94); bits 7..1 must be 0 (R95). -/
def withLevel (arg : Byte) (f : Bool → Instr) : Except DecodeError Instr :=
  match arg.toNat with
  | 0 => .ok (f false)
  | 1 => .ok (f true)
  | _ => .error (.badArg arg)

/-- CMD_IN's operand, the kind index in the order of 00_scope.md R18 (30_encoding.md R94); above 10 is ill-formed. -/
def kindOfArg (arg : Byte) : Except DecodeError CmdKind :=
  match arg.toNat with
  | 0 => .ok .stop
  | 1 => .ok .rotCw90
  | 2 => .ok .rotCw45
  | 3 => .ok .rotCcw90
  | 4 => .ok .rotCcw45
  | 5 => .ok .fwdHalf
  | 6 => .ok .fwdFull
  | 7 => .ok .revHalf
  | 8 => .ok .revFull
  | 9 => .ok .align
  | 10 => .ok .searchTape
  | _ => .error (.badArg arg)

/-- The operation a 32-bit stimulus word spells (30_encoding.md R93); the ill-formed words of R95 spell none. -/
def decodeStimulus (linkNoise : Bool) (w : StimulusWord) : Except DecodeError Instr :=
  if stimZero w ≠ 0#19 then .error .reservedBits
  else
    match (stimOp w).toNat with
    | 0x01 => withArgZero (stimArg w) .cnt
    | 0x02 => withArgZero (stimArg w) .edge
    | 0x03 => withArgZero (stimArg w) .capIsr
    | 0x04 => withArgZero (stimArg w) .ovfIsr
    | 0x05 => withArgZero (stimArg w) .diag
    | 0x06 =>
      match kindOfArg (stimArg w) with
      | .ok k => .ok (.cmdIn k)
      | .error e => .error e
    | 0x07 => withArgZero (stimArg w) .poll
    | 0x08 => if linkNoise then .ok (.pollNoisy (stimArg w)) else .error .linkNoiseOff
    | 0x09 => withArgZero (stimArg w) .dispatch
    | 0x0A => withArgZero (stimArg w) .tmrTick
    | 0x0B => withLevel (stimArg w) .beaconPin
    | 0x0C => withLevel (stimArg w) .tapePin
    | 0x0D => withArgZero (stimArg w) .resetM
    | 0x0E => withArgZero (stimArg w) .resetC
    | _ => .error (.reservedOp (stimOp w))

/-- The instruction a word of any format is, under a configuration. -/
def decode (c : Config) : Encoded → Except DecodeError Instr
  | .stimulus w => decodeStimulus c.linkNoise w
  | .entry e =>
    match decodeEntry e with
    | .ok en => .ok (.ofEntry en)
    | .error err => .error err
  | .link b => decodeLink c.code b

/-! ### The encoder -/

/-- Format S assembled (R92). -/
def stimulusWord (op : BitVec 5) (arg : Byte) : StimulusWord := op ++ 0#19 ++ arg

/-- Format E assembled (R88). -/
def entryWord (type : BitVec 4) (arg : Byte) (tag : Epoch) : EntryWord := type ++ arg ++ tag

/-- CMD_IN's operand (30_encoding.md R94). -/
def kindArg : CmdKind → Byte
  | .stop => 0#8
  | .rotCw90 => 1#8
  | .rotCw45 => 2#8
  | .rotCcw90 => 3#8
  | .rotCcw45 => 4#8
  | .fwdHalf => 5#8
  | .fwdFull => 6#8
  | .revHalf => 7#8
  | .revFull => 8#8
  | .align => 9#8
  | .searchTape => 10#8

/-- A level operand (30_encoding.md R94). -/
def levelArg (v : Bool) : Byte := if v then 1#8 else 0#8

/-- The source id of a BEACON_DETECTED entry (30_encoding.md R90). -/
def beaconSourceId : BeaconSource → Byte
  | .engine => 0x00#8
  | .sensor => 0x01#8
  | .synthetic => 0x02#8

/-- The source id of a TAPE_DETECTED entry (30_encoding.md R90). -/
def tapeSourceId : TapeSource → Byte
  | .sensor => 0x01#8
  | .synthetic => 0x02#8

/-- The 24-bit word of an entry (30_encoding.md R88 to R90). -/
def encodeEntry : Entry → EntryWord
  | .newCommand c => entryWord 0x1#4 c 0#12
  | .beaconDetected src => entryWord 0x2#4 (beaconSourceId src) 0#12
  | .tapeDetected src => entryWord 0x3#4 (tapeSourceId src) 0#12
  | .timeout tag => entryWord 0x4#4 0#8 tag

/-- The word of an instruction (30_encoding.md R84, R88, R93), under a configuration's CODE. -/
def encode (c : Config) : Instr → Encoded
  | .cnt => .stimulus (stimulusWord 0x01#5 0#8)
  | .edge => .stimulus (stimulusWord 0x02#5 0#8)
  | .capIsr => .stimulus (stimulusWord 0x03#5 0#8)
  | .ovfIsr => .stimulus (stimulusWord 0x04#5 0#8)
  | .diag => .stimulus (stimulusWord 0x05#5 0#8)
  | .cmdIn k => .stimulus (stimulusWord 0x06#5 (kindArg k))
  | .poll => .stimulus (stimulusWord 0x07#5 0#8)
  | .pollNoisy x => .stimulus (stimulusWord 0x08#5 x)
  | .dispatch => .stimulus (stimulusWord 0x09#5 0#8)
  | .tmrTick => .stimulus (stimulusWord 0x0A#5 0#8)
  | .beaconPin v => .stimulus (stimulusWord 0x0B#5 (levelArg v))
  | .tapePin v => .stimulus (stimulusWord 0x0C#5 (levelArg v))
  | .resetM => .stimulus (stimulusWord 0x0D#5 0#8)
  | .resetC => .stimulus (stimulusWord 0x0E#5 0#8)
  | .newCommand b => .entry (encodeEntry (.newCommand b))
  | .beaconEngine => .entry (encodeEntry (.beaconDetected .engine))
  | .beaconSensor => .entry (encodeEntry (.beaconDetected .sensor))
  | .beaconSynthetic => .entry (encodeEntry (.beaconDetected .synthetic))
  | .tapeSensor => .entry (encodeEntry (.tapeDetected .sensor))
  | .tapeSynthetic => .entry (encodeEntry (.tapeDetected .synthetic))
  | .timeout tag => .entry (encodeEntry (.timeout tag))
  | .flag => .link Config.flagByte
  | .cmdStop => .link (c.code.byte .stop)
  | .cmdRotCw90 => .link (c.code.byte .rotCw90)
  | .cmdRotCw45 => .link (c.code.byte .rotCw45)
  | .cmdRotCcw90 => .link (c.code.byte .rotCcw90)
  | .cmdRotCcw45 => .link (c.code.byte .rotCcw45)
  | .cmdFwdHalf => .link (c.code.byte .fwdHalf)
  | .cmdFwdFull => .link (c.code.byte .fwdFull)
  | .cmdRevHalf => .link (c.code.byte .revHalf)
  | .cmdRevFull => .link (c.code.byte .revFull)
  | .cmdAlign => .link (c.code.byte .align)
  | .cmdSearchTape => .link (c.code.byte .searchTape)

/-! ### The opcode table's own numbering -/

/-- The configuration in which the table's rows are words: RC1's codes (the table's link bytes are RC1's) with
LINK_NOISE true (the table's POLL_NOISY row is legal only then). Log 10. -/
def tableConfig : Config := { Config.rc1 with linkNoise := true }

/-- The word of a table row of `nbits` bits, bit 0 the least significant. 32 bits are a stimulus word, 24 an event
entry, 8 a link byte; a link byte's row to which the table's reader gave a bit above 7 (its note on the kind index)
has 16, of which the byte is the low one (log 11). -/
def tableWord (nbits w : Nat) : Option Encoded :=
  match nbits with
  | 32 => some (.stimulus (BitVec.ofNat 32 w))
  | 24 => some (.entry (BitVec.ofNat 24 w))
  | 16 => some (.link (BitVec.ofNat 8 w))
  | 8 => some (.link (BitVec.ofNat 8 w))
  | _ => none

/-- The instruction the decoder reads from a table row's word. -/
def decodeTableWord (nbits w : Nat) : Option Instr :=
  match tableWord nbits w with
  | some e =>
    match decode tableConfig e with
    | .ok i => some i
    | .error _ => none
  | none => none

end Sys2Proof
end

