-- ==== Sys2Proof/Machine/State.lean ====
section
/-! DEFINITION. The state of the block (10_state.md R20 to R52), the reasons a step can stop, and the state right
after power-on (70_reset_and_hazards.md R262). -/

namespace Sys2Proof.Machine

/-- A wheel's rotation sense (10_state.md R42: 0 = forward, 1 = reverse). -/
inductive Dir where
  | forward | reverse
  deriving DecidableEq, Repr

/-- A wheel's actuation request (10_state.md R42). -/
structure Wheel where
  speed : Byte
  dir : Dir
  deriving DecidableEq, Repr

/-- `(0, F)`: a stopped wheel (42_behavior_controller.md R173). -/
def Wheel.stopped : Wheel := { speed := 0#8, dir := .forward }

/-- The Responder's Link State (10_state.md R31). The reserved value 3 is excluded by the type (log 14). -/
inductive LinkState where
  | awaitingCommand | flagQueued | payloadQueued
  deriving DecidableEq, Repr

/-- The 2-bit encoding of R_STATE (10_state.md R31). -/
def LinkState.code : LinkState → BitVec 2
  | .awaitingCommand => 0#2
  | .flagQueued => 1#2
  | .payloadQueued => 2#2

/-- The Behavior State (10_state.md R37). -/
inductive BehaviorState where
  | stopped | simpleMoving | searchingForTape | aligningWithBeacon
  deriving DecidableEq, Repr

/-- The 2-bit encoding of B_STATE (10_state.md R37). -/
def BehaviorState.code : BehaviorState → BitVec 2
  | .stopped => 0#2
  | .simpleMoving => 1#2
  | .searchingForTape => 2#2
  | .aligningWithBeacon => 3#2

/-- An output record (10_state.md R47, 00_scope.md R14). -/
inductive Output where
  | actuate (l r : Wheel)
  | diagReport (f : Nat) (s : Ticks)
  | protoErr (b : Byte)
  deriving DecidableEq, Repr

/-- The whole state. The registers whose width is a parameter (CNT, CAP_VAL, RC, T_COUNT) are numbers that every
write reduces modulo 2 to their width (log 13). -/
structure State where
  /-- The parameters, fixed at instantiation (10_state.md R49; log 2). -/
  cfg : Config
  /-- CNT, W bits (R21). -/
  cnt : Nat
  /-- OVF_PENDING (R22). -/
  ovfPending : Bool
  /-- CAP_VAL, W bits (R23). -/
  capVal : Nat
  /-- CAP_PENDING (R24). -/
  capPending : Bool
  /-- RC, RCW = 32 - W bits (R25). -/
  rc : Nat
  /-- PREV_TS (R26). -/
  prevTs : Ticks
  /-- HAVE_PREV (R27). -/
  havePrev : Bool
  /-- SMOOTH (R28). -/
  smooth : Ticks
  /-- HAVE_SMOOTH (R29). -/
  haveSmooth : Bool
  /-- R_STATE (R31), on the command chip. -/
  rState : LinkState
  /-- R_HELD (R32), on the command chip. -/
  rHeld : Byte
  /-- FAULT_C (R34), on the command chip: bit 0 = INIT_FAIL. -/
  faultC : BitVec 1
  /-- P_LATCH (R35). -/
  pLatch : Bool
  /-- P_LAST (R36). -/
  pLast : Byte
  /-- B_STATE (R37). -/
  bState : BehaviorState
  /-- Q, head first (R38; entries are 24-bit words, 30_encoding.md R87). -/
  q : List EntryWord
  /-- T_ACTIVE (R39). -/
  tActive : Bool
  /-- T_COUNT, TCW bits (R40). -/
  tCount : Nat
  /-- T_EPOCH (R41). -/
  tEpoch : Epoch
  /-- ACT_L (R42). -/
  actL : Wheel
  /-- ACT_R (R42). -/
  actR : Wheel
  /-- FAULT_M (R43): bits 0 INIT_FAIL, 1 QUEUE_OVERFLOW, 2 CAPTURE_OVERRUN, 3 BAD_EVENT. -/
  faultM : BitVec 4
  /-- BEACON_PIN (R44), owned by the environment. -/
  beaconPin : Bool
  /-- TAPE_PIN (R45), owned by the environment, active low. -/
  tapePin : Bool
  /-- MODEL FIELD: the rest of the stimulus script (30_encoding.md R96; log 3). -/
  script : List StimulusWord
  /-- MODEL FIELD: the output trace, oldest first (00_scope.md R14; log 8). -/
  out : List Output
  /-- MODEL FIELD: draws of INIT_OK_M that the environment has settled (log 6). -/
  initOkMIn : List Bool
  /-- MODEL FIELD: draws of INIT_OK_C that the environment has settled (log 6). -/
  initOkCIn : List Bool
  /-- MODEL FIELD: replies of a halted command chip that the environment has settled (log 7). -/
  haltedByteIn : List Byte
  /-- MODEL FIELD: the number of the next free draw (log 6, 7). -/
  drawCount : Nat
  deriving DecidableEq, Repr

/-- A step that the spec calls stuck: its enabling condition is false, the step cannot be taken and a script stops
there (30_encoding.md R96, 93_implementation_defined.md U13; log 9). Each is safe: the hardware takes no such step. -/
inductive Fault where
  /-- A step of the motion chip while FAULT_M is not 0 (60_exceptions.md R229). Raised by every motion-chip
  instruction but RESET_M. Safe. -/
  | motionHalted
  /-- CMD_IN while FAULT_C is not 0 (60_exceptions.md R229). Raised by CMD_IN. Safe. -/
  | commandHalted
  /-- CAP_ISR with CAP_PENDING = 0 (40_beacon_timing.md R112). Raised by CAP_ISR. Safe. -/
  | noCapturePending
  /-- OVF_ISR with OVF_PENDING = 0 (40_beacon_timing.md R119). Raised by OVF_ISR. Safe. -/
  | noRolloverPending
  /-- OVF_ISR with CAP_PENDING = 1: CAP_ISR runs first (40_beacon_timing.md R119, 60_exceptions.md R232). Raised by
  OVF_ISR. Safe. -/
  | capturePendingFirst
  /-- DISPATCH with an empty queue (42_behavior_controller.md R170). Raised by DISPATCH. Safe. -/
  | queueEmpty
  /-- POLL_NOISY with LINK_NOISE = false (41_command_link.md R146). Raised by POLL_NOISY. Safe. -/
  | linkNoiseOff
  deriving DecidableEq, Repr

/-- No step: there is nothing to run, or what there is spells no operation. -/
inductive Refusal where
  /-- An instruction that has no meaning in the model yet. Raised by exec's arms only. Safe. -/
  | notModelled (mnemonic : String)
  /-- The next stimulus word is reserved or ill formed: the decoder refuses it and the model never steps on it
  (30_encoding.md R95). Raised by step. Safe. -/
  | illFormedWord (why : DecodeError)
  /-- The stimulus script has ended: no agent is asked to step (30_encoding.md R96; log 3). Raised by step. Safe. -/
  | scriptEnded
  deriving DecidableEq, Repr

/-- The state after power-on (70_reset_and_hazards.md R262, values of 10_state.md R52): both resets, with the sensor
levels and the two configuration results as drawn. -/
def State.powerOn (cfg : Config) (beaconPin tapePin initOkM initOkC : Bool) : State where
  cfg := cfg
  cnt := 0
  ovfPending := false
  capVal := 0
  capPending := false
  rc := 0
  prevTs := 0#32
  havePrev := false
  smooth := 0#32
  haveSmooth := false
  rState := .awaitingCommand
  rHeld := cfg.code.byte .stop
  faultC := if initOkC then 0#1 else 1#1
  pLatch := false
  pLast := cfg.code.byte .stop
  bState := .stopped
  q := []
  tActive := false
  tCount := 0
  tEpoch := 0#12
  actL := .stopped
  actR := .stopped
  faultM := if initOkM then 0#4 else 1#4
  beaconPin := beaconPin
  tapePin := tapePin
  script := []
  out := []
  initOkMIn := []
  initOkCIn := []
  haltedByteIn := []
  drawCount := 0

/-- The machine right after reset: power-on with RC1 (DESIGN CHOICE, log 2), both configuration results 1 (DESIGN
CHOICE, log 4; 70_reset_and_hazards.md R263), no beacon and no tape (DESIGN CHOICE, log 5). -/
def State.reset : State := State.powerOn Config.rc1 false true true true

end Sys2Proof.Machine
end

