-- ==== Sys2Proof/Machine/Flags.lean ====
section
/-! DEFINITION. The two status registers' bits (60_exceptions.md R225) and the conditions that the flags of
10_state.md R50 give the steps. -/

namespace Sys2Proof.Machine

/-- The fault codes (60_exceptions.md R225). -/
inductive FaultCode where
  | initFail | queueOverflow | captureOverrun | badEvent
  deriving DecidableEq, Repr

/-- A fault's code is its bit number in FAULT_M (60_exceptions.md R225, 10_state.md R43). -/
def FaultCode.bit : FaultCode → Nat
  | .initFail => 0
  | .queueOverflow => 1
  | .captureOverrun => 2
  | .badEvent => 3

/-- `FAULT_M[code] <- 1`: the bits are sticky (60_exceptions.md R225). -/
def setFault (f : FaultCode) (m : BitVec 4) : BitVec 4 := m ||| (1#4 <<< f.bit)

/-- FAULT_M after the motion chip's reset: INIT_FAIL = not ok, other bits 0 (70_reset_and_hazards.md R260). -/
def faultMAfterReset (ok : Bool) : BitVec 4 := if ok then 0#4 else setFault .initFail 0#4

/-- FAULT_C after the command chip's reset: INIT_FAIL (bit 0) = not ok (70_reset_and_hazards.md R261). -/
def faultCAfterReset (ok : Bool) : BitVec 1 := if ok then 0#1 else 1#1

/-- The step of the motion chip is enabled only while FAULT_M = 0 (60_exceptions.md R229); `t` is its result. -/
def whileMotionRuns (s t : State) : Host.Outcome State Fault Refusal :=
  if s.faultM = 0#4 then .next t else .fault .motionHalted

end Sys2Proof.Machine
end

