-- ==== Sys2Proof/Machine/Operands.lean ====
section
/-! DEFINITION. What the operations compute from what they read: the wide timestamp, the sample, the smoothed
interval, the frequency and its classification (40_beacon_timing.md R113 to R120), the Responder's prepared byte
(10_state.md R33), the wheel pairs (42_behavior_controller.md R173), and the decrement of the timer (R192). -/

namespace Sys2Proof.Machine

/-- The rollover attribution's condition (40_beacon_timing.md R113): the indicator is pending and the capture lies in
the lower half of the counter's range. -/
def attributesRollover (cfg : Config) (ovfPending : Bool) (c : Nat) : Bool := ovfPending && decide (c < cfg.half)

/-- `(RC + 1) mod 2^RCW` (40_beacon_timing.md R112, R119). -/
def nextRollover (cfg : Config) (rc : Nat) : Nat := (rc + 1) % 2 ^ cfg.rcw

/-- `ts = ((RC << W) | c) mod 2^TSW` (40_beacon_timing.md R114). -/
def composeTimestamp (cfg : Config) (rc c : Nat) : Ticks := BitVec.ofNat 32 ((rc <<< cfg.w) ||| c)

/-- `delta = (ts - PREV_TS) mod 2^TSW` (40_beacon_timing.md R115). -/
def sampleDelta (ts prevTs : Ticks) : Ticks := ts - prevTs

/-- The smoothing step (40_beacon_timing.md R116): the first sample seeds, later ones weigh 5:1, the sum exact and the
quotient truncated. -/
def smoothed (haveSmooth : Bool) (smooth delta : Ticks) : Ticks :=
  if haveSmooth then BitVec.ofNat 32 ((delta.toNat + 5 * smooth.toNat) / 6) else delta

/-- `FREQ(s)` in Hz (40_beacon_timing.md R120). -/
def freq (cfg : Config) (s : Ticks) : Nat :=
  if s = 0#32 then 0 else cfg.fEff / (s.toNat * cfg.capDiv)

/-- A qualifying sample: `|FREQ(SMOOTH) - F_TARGET| < TOL`, strict, on mathematical integers (40_beacon_timing.md
R117). -/
def qualifies (cfg : Config) (s : Ticks) : Bool :=
  decide (((freq cfg s : Int) - (Config.fTarget : Int)).natAbs < cfg.tol)

/-- `R_TX`, the byte the Responder has prepared (10_state.md R33). -/
def preparedByte (rState : LinkState) (rHeld : Byte) : Byte :=
  match rState with
  | .flagQueued => Config.flagByte
  | .awaitingCommand => rHeld
  | .payloadQueued => rHeld

/-- The rows of the wheel table (42_behavior_controller.md R173). -/
inductive Action where
  | zero | rotCw90 | rotCw45 | rotCcw90 | rotCcw45 | fwdHalf | fwdFull | revHalf | revFull | spin | tapeSearch
  deriving DecidableEq, Repr

/-- Both wheels alike. -/
def bothWheels (speed : Byte) (dir : Dir) : Wheel × Wheel :=
  ({ speed := speed, dir := dir }, { speed := speed, dir := dir })

/-- A clockwise rotation: left forward, right reverse (42_behavior_controller.md R173; PRESUMED by the spec, log 17). -/
def turnCw (speed : Byte) : Wheel × Wheel :=
  ({ speed := speed, dir := .forward }, { speed := speed, dir := .reverse })

/-- A counter-clockwise rotation: left reverse, right forward (42_behavior_controller.md R173; PRESUMED by the spec,
log 17). -/
def turnCcw (speed : Byte) : Wheel × Wheel :=
  ({ speed := speed, dir := .reverse }, { speed := speed, dir := .forward })

/-- `WHEELS(a)` = (left, right) (42_behavior_controller.md R173). -/
def wheels (cfg : Config) : Action → Wheel × Wheel
  | .zero => (Wheel.stopped, Wheel.stopped)
  | .rotCw90 => turnCw cfg.dutyRot
  | .rotCw45 => turnCw cfg.dutyRot
  | .rotCcw90 => turnCcw cfg.dutyRot
  | .rotCcw45 => turnCcw cfg.dutyRot
  | .fwdHalf => bothWheels cfg.dutyHalf .forward
  | .fwdFull => bothWheels cfg.dutyFull .forward
  | .revHalf => bothWheels cfg.dutyHalf .reverse
  | .revFull => bothWheels cfg.dutyFull .reverse
  | .spin =>
    match cfg.spinDir with
    | .cw => turnCw cfg.dutySpin
    | .ccw => turnCcw cfg.dutySpin
  | .tapeSearch => bothWheels cfg.dutySearch .forward

/-- `T_COUNT - 1` in the TCW-bit register (42_behavior_controller.md R192). A decrement from 0 while active, which no
run reaches, wraps modulo 2^TCW (log 13). -/
def decrementTimer (cfg : Config) (tCount : Nat) : Nat := (tCount + (2 ^ cfg.tcw - 1)) % 2 ^ cfg.tcw

/-- `valid_timeout(t)` (42_behavior_controller.md R195). -/
def validTimeout (tag tEpoch : Epoch) (b : BehaviorState) : Bool :=
  decide (tag = tEpoch) && decide (b ≠ .stopped)

end Sys2Proof.Machine
end

