-- ==== Sys2Proof/Machine/Ops.lean ====
section
/-! DEFINITION. The shared operations: the output trace and raise (00_scope.md R14, 60_exceptions.md R225), the queue
(20_memory.md R62, R63), the free draws, the exchange and the Poller (41_command_link.md R141, R143), the timer and the
actuation (42_behavior_controller.md R171 to R173), and taking the next stimulus off the script (30_encoding.md R96).
There is no return from a fault: only the chip's reset clears it (R225, R235). -/

namespace Sys2Proof.Machine

/-! ### Output and faults -/

/-- `emit NAME(args)`: appends a record to the output trace (00_scope.md R14). -/
def emit (o : Output) (s : State) : State := { s with out := s.out ++ [o] }

/-- `raise NAME(info)`, taking a fault (60_exceptions.md R225): the bit is set, the actuation registers are zeroed and
ACTUATE is emitted. The raising step then runs to its end; `info` is not stored. -/
def raiseFault (f : FaultCode) (s : State) : State :=
  { s with
    faultM := setFault f s.faultM
    actL := Wheel.stopped
    actR := Wheel.stopped
    out := s.out ++ [.actuate Wheel.stopped Wheel.stopped] }

/-! ### The event queue -/

/-- `post(e)` (20_memory.md R62): into a full queue it raises QUEUE_OVERFLOW and discards the entry. -/
def post (e : Entry) (s : State) : State :=
  if s.q.length = s.cfg.qdepth then raiseFault .queueOverflow s
  else { s with q := s.q ++ [encodeEntry e] }

/-- `dequeue()` (20_memory.md R63): the head and the state without it; defined only where there is one. -/
def dequeue (s : State) : Option (EntryWord × State) :=
  match s.q with
  | [] => none
  | e :: rest => some (e, { s with q := rest })

/-! ### Free draws -/

/-- `draw` of INIT_OK_M (10_state.md R46): what the environment has settled, else a free value (log 6). -/
def drawInitOkM (s : State) : Bool × State :=
  match s.initOkMIn with
  | ok :: rest => (ok, { s with initOkMIn := rest })
  | [] => (Config.initOkM s.drawCount, { s with drawCount := s.drawCount + 1 })

/-- `draw` of INIT_OK_C (10_state.md R46): what the environment has settled, else a free value (log 6). -/
def drawInitOkC (s : State) : Bool × State :=
  match s.initOkCIn with
  | ok :: rest => (ok, { s with initOkCIn := rest })
  | [] => (Config.initOkC s.drawCount, { s with drawCount := s.drawCount + 1 })

/-- `draw` of the byte a halted command chip answers with (41_command_link.md R141): what the environment has settled,
else a free value (log 7). -/
def drawHaltedByte (s : State) : Byte × State :=
  match s.haltedByteIn with
  | b :: rest => (b, { s with haltedByteIn := rest })
  | [] => (Config.haltedByte s.drawCount, { s with drawCount := s.drawCount + 1 })

/-! ### The command link -/

/-- The Responder's one state advance per exchange (41_command_link.md R141). -/
def advanceLink : LinkState → LinkState
  | .flagQueued => .payloadQueued
  | .payloadQueued => .awaitingCommand
  | .awaitingCommand => .awaitingCommand

/-- `responder_exchange()` (41_command_link.md R141): the byte sent and the state after it. -/
def responderExchange (s : State) : Byte × State :=
  if s.faultC ≠ 0#1 then drawHaltedByte s
  else (preparedByte s.rState s.rHeld, { s with rState := advanceLink s.rState })

/-- `P_LATCH <- v` (10_state.md R35). -/
def setLatch (v : Bool) (s : State) : State := { s with pLatch := v }

/-- `P_LAST <- b` (10_state.md R36). -/
def setLast (b : Byte) (s : State) : State := { s with pLast := b }

/-- The Poller takes a valid payload candidate (41_command_link.md R143, R145): forwards it and remembers it, unless
the parameter suppresses an equal one. -/
def forwardCommand (b : Byte) (s : State) : State :=
  if s.cfg.suppressEqualAfterFlag = false ∨ b ≠ s.pLast then setLast b (post (.newCommand b) s)
  else s

/-- `poller_receive(b)` (41_command_link.md R143, R144). -/
def pollerReceive (b : Byte) (s : State) : State :=
  if b = Config.flagByte then setLatch true s
  else if s.pLatch then
    match classify s.cfg.code b with
    | .cmd _ => setLatch false (forwardCommand b s)
    | .flag => setLatch false (emit (.protoErr b) s)
    | .invalid => setLatch false (emit (.protoErr b) s)
  else s

/-! ### The timestamp -/

/-- `PREV_TS <- ts; HAVE_PREV <- 1` (40_beacon_timing.md R118). -/
def recordTimestamp (ts : Ticks) (s : State) : State := { s with prevTs := ts, havePrev := true }

/-! ### The timer and the actuation -/

/-- `exit_state()` (42_behavior_controller.md R171). -/
def exitState (s : State) : State := { s with tActive := false, tEpoch := s.tEpoch + 1#12 }

/-- `arm_timer(d)` (42_behavior_controller.md R172). -/
def armTimer (d : Nat) (s : State) : State := { s with tActive := true, tCount := d }

/-- `actuate(a)` (42_behavior_controller.md R173). -/
def actuate (a : Action) (s : State) : State :=
  { s with
    actL := (wheels s.cfg a).1
    actR := (wheels s.cfg a).2
    out := s.out ++ [.actuate (wheels s.cfg a).1 (wheels s.cfg a).2] }

/-- `goto S` (00_scope.md R15). -/
def gotoState (b : BehaviorState) (s : State) : State := { s with bState := b }

/-! ### The stimulus script -/

/-- Takes the next stimulus word off the script (30_encoding.md R96). -/
def fetchStimulus (s : State) : Option (StimulusWord × State) :=
  match s.script with
  | [] => none
  | w :: rest => some (w, { s with script := rest })

/-- Puts a stimulus word where the next step takes it; POLL_NOISY is a stimulus only where LINK_NOISE is true, so that
parameter comes with it (30_encoding.md R95; log 10). -/
def placeStimulus (w : StimulusWord) (s : State) : State :=
  { s with
    script := w :: s.script
    cfg := if stimOp w = 0x08#5 then { s.cfg with linkNoise := true } else s.cfg }

/-- Puts an event entry where the next step takes it: the head of the queue, and a DISPATCH to take it
(42_behavior_controller.md R170; log 12). -/
def placeEntry (e : EntryWord) (s : State) : State :=
  { s with q := e :: s.q, script := stimulusWord 0x09#5 0#8 :: s.script }

/-- Puts a link byte where the next step takes it: the reply the command chip has prepared, and a POLL to take it
(10_state.md R33, 41_command_link.md R142; log 12). A halted command chip's reply is a draw. -/
def placeLinkByte (b : Byte) (s : State) : State :=
  if s.faultC ≠ 0#1 then
    { s with haltedByteIn := b :: s.haltedByteIn, script := stimulusWord 0x07#5 0#8 :: s.script }
  else if b = Config.flagByte then
    { s with rState := .flagQueued, script := stimulusWord 0x07#5 0#8 :: s.script }
  else
    { s with rState := .awaitingCommand, rHeld := b, script := stimulusWord 0x07#5 0#8 :: s.script }

/-- Puts a word of any format where the next step takes it. -/
def placeEncoded (e : Encoded) (s : State) : State :=
  match e with
  | .stimulus w => placeStimulus w s
  | .entry e => placeEntry e s
  | .link b => placeLinkByte b s

end Sys2Proof.Machine
end

