-- ==== Sys2Proof/Machine/Behavior.lean ====
section
/-! DEFINITION. The Behavior State Machine, timer and dispatcher family (42_behavior_controller.md R170 to R195): the
event entries, each with the meaning the current Behavior State gives it when it is dispatched (log 1), DISPATCH,
TMR_TICK, BEACON_PIN, TAPE_PIN. -/

namespace Sys2Proof.Machine

/-! ### The handlers -/

/-- A completed or aborted action: zero actuation, exit, back to Stopped (42_behavior_controller.md R181, R182, R184,
R185, R188, R189). -/
def stopAction (s : State) : State := gotoState .stopped (exitState (actuate .zero s))

/-- A rotation (42_behavior_controller.md R175): actuation `a`, a bounded timer of `d` ticks, SimpleMoving. -/
def startRotation (a : Action) (d : Nat) (s : State) : State := gotoState .simpleMoving (armTimer d (actuate a s))

/-- A drive (42_behavior_controller.md R176): actuation `a`, no timer, SimpleMoving. -/
def startDrive (a : Action) (s : State) : State := gotoState .simpleMoving (actuate a s)

/-- ALIGN in Stopped (42_behavior_controller.md R177), with the shortcut where the beacon already reads positive. -/
def startAlign (s : State) : State :=
  if s.beaconPin then post (.beaconDetected .synthetic) (gotoState .aligningWithBeacon s)
  else gotoState .aligningWithBeacon (armTimer s.cfg.tAlign (actuate .spin s))

/-- SEARCH_TAPE in Stopped (42_behavior_controller.md R178), with the shortcut where the tape (active low) already
reads positive. -/
def startSearch (s : State) : State :=
  if s.tapePin = false then post (.tapeDetected .synthetic) (gotoState .searchingForTape s)
  else gotoState .searchingForTape (armTimer s.cfg.tSearch (actuate .tapeSearch s))

/-- A command of kind `k` dispatched in Stopped (42_behavior_controller.md R175 to R179). -/
def startCommand (k : CmdKind) (s : State) : State :=
  match k with
  | .stop => actuate .zero s
  | .rotCw90 => startRotation .rotCw90 s.cfg.tRot90 s
  | .rotCw45 => startRotation .rotCw45 s.cfg.tRot45 s
  | .rotCcw90 => startRotation .rotCcw90 s.cfg.tRot90 s
  | .rotCcw45 => startRotation .rotCcw45 s.cfg.tRot45 s
  | .fwdHalf => startDrive .fwdHalf s
  | .fwdFull => startDrive .fwdFull s
  | .revHalf => startDrive .revHalf s
  | .revFull => startDrive .revFull s
  | .align => startAlign s
  | .searchTape => startSearch s

/-- Preemption (42_behavior_controller.md R181): the action is aborted and the same command re-posted. -/
def preempt (c : Byte) (s : State) : State := post (.newCommand c) (stopAction s)

/-- NEW_COMMAND(c) in each state (42_behavior_controller.md R174 to R179, R181). -/
def handleNewCommand (c : Byte) (s : State) : State :=
  match s.bState with
  | .stopped =>
    match classify s.cfg.code c with
    | .cmd k => startCommand k s
    | .flag => s
    | .invalid => s
  | .simpleMoving => preempt c s
  | .searchingForTape => preempt c s
  | .aligningWithBeacon => preempt c s

/-- BEACON_DETECTED in each state, whatever its source (42_behavior_controller.md R180, R183, R186, R188). -/
def handleBeacon (s : State) : State :=
  match s.bState with
  | .aligningWithBeacon => stopAction s
  | .stopped => s
  | .simpleMoving => s
  | .searchingForTape => s

/-- TAPE_DETECTED in each state, whatever its source (42_behavior_controller.md R180, R183, R184, R187). -/
def handleTape (s : State) : State :=
  match s.bState with
  | .searchingForTape => stopAction s
  | .stopped => s
  | .simpleMoving => s
  | .aligningWithBeacon => s

/-- TIMEOUT(tag) in each state (42_behavior_controller.md R180, R182, R185, R189, R195). -/
def handleTimeout (tag : Epoch) (s : State) : State :=
  if validTimeout tag s.tEpoch s.bState then stopAction s else s

/-- An entry, run to completion in the current state (42_behavior_controller.md R170, R190). -/
def handleEntry (e : Entry) (s : State) : State :=
  match e with
  | .newCommand c => handleNewCommand c s
  | .beaconDetected _ => handleBeacon s
  | .tapeDetected _ => handleTape s
  | .timeout tag => handleTimeout tag s

/-! ### The event entries -/

/-- NEW_COMMAND(c), dispatched (42_behavior_controller.md R174 to R179, R181). -/
def execNewCommand (c : Byte) (s : State) : Host.Outcome State Fault Refusal :=
  whileMotionRuns s (handleEntry (.newCommand c) s)

/-- BEACON_DETECTED(ENGINE), dispatched (42_behavior_controller.md R180, R183, R186, R188). -/
def execBeaconEngine (s : State) : Host.Outcome State Fault Refusal :=
  whileMotionRuns s (handleEntry (.beaconDetected .engine) s)

/-- BEACON_DETECTED(SENSOR), dispatched (42_behavior_controller.md R180, R183, R186, R188). -/
def execBeaconSensor (s : State) : Host.Outcome State Fault Refusal :=
  whileMotionRuns s (handleEntry (.beaconDetected .sensor) s)

/-- BEACON_DETECTED(SYNTHETIC), dispatched (42_behavior_controller.md R180, R183, R186, R188). -/
def execBeaconSynthetic (s : State) : Host.Outcome State Fault Refusal :=
  whileMotionRuns s (handleEntry (.beaconDetected .synthetic) s)

/-- TAPE_DETECTED(SENSOR), dispatched (42_behavior_controller.md R180, R183, R184, R187). -/
def execTapeSensor (s : State) : Host.Outcome State Fault Refusal :=
  whileMotionRuns s (handleEntry (.tapeDetected .sensor) s)

/-- TAPE_DETECTED(SYNTHETIC), dispatched (42_behavior_controller.md R180, R183, R184, R187). -/
def execTapeSynthetic (s : State) : Host.Outcome State Fault Refusal :=
  whileMotionRuns s (handleEntry (.tapeDetected .synthetic) s)

/-- TIMEOUT(tag), dispatched (42_behavior_controller.md R180, R182, R185, R189, R195). -/
def execTimeout (tag : Epoch) (s : State) : Host.Outcome State Fault Refusal :=
  whileMotionRuns s (handleEntry (.timeout tag) s)

/-! ### DISPATCH, the timer's tick and the sensor levels -/

/-- A dequeued word is handled: a reserved one raises BAD_EVENT and runs no handler (42_behavior_controller.md R170,
60_exceptions.md R228). -/
def runEntryWord (e : EntryWord) (s : State) : State :=
  match decodeEntry e with
  | .ok en => handleEntry en s
  | .error _ => raiseFault .badEvent s

/-- DISPATCH (42_behavior_controller.md R170): enabled while the queue holds an entry. -/
def execDispatch (s : State) : Host.Outcome State Fault Refusal :=
  match dequeue s with
  | some (e, s1) => whileMotionRuns s (runEntryWord e s1)
  | none => if s.faultM = 0#4 then .fault .queueEmpty else .fault .motionHalted

/-- TMR_TICK's effect (42_behavior_controller.md R192). -/
def tickTimer (s : State) : State :=
  if s.tActive then
    let left := decrementTimer s.cfg s.tCount
    if left = 0 then post (.timeout s.tEpoch) { s with tCount := left, tActive := false }
    else { s with tCount := left }
  else s

/-- TMR_TICK (42_behavior_controller.md R192). -/
def execTmrTick (s : State) : Host.Outcome State Fault Refusal := whileMotionRuns s (tickTimer s)

/-- BEACON_PIN v's effect (42_behavior_controller.md R193): a rising edge posts BEACON_DETECTED(SENSOR). -/
def setBeaconPin (v : Bool) (s : State) : State :=
  if s.beaconPin = false ∧ v = true then post (.beaconDetected .sensor) { s with beaconPin := v }
  else { s with beaconPin := v }

/-- BEACON_PIN v (42_behavior_controller.md R193). -/
def execBeaconPin (v : Bool) (s : State) : Host.Outcome State Fault Refusal := whileMotionRuns s (setBeaconPin v s)

/-- TAPE_PIN v's effect (42_behavior_controller.md R194): a falling edge posts TAPE_DETECTED(SENSOR). -/
def setTapePin (v : Bool) (s : State) : State :=
  if s.tapePin = true ∧ v = false then post (.tapeDetected .sensor) { s with tapePin := v }
  else { s with tapePin := v }

/-- TAPE_PIN v (42_behavior_controller.md R194). -/
def execTapePin (v : Bool) (s : State) : Host.Outcome State Fault Refusal := whileMotionRuns s (setTapePin v s)

end Sys2Proof.Machine
end

