-- ==== Sys2Proof/Machine/Engine.lean ====
section
/-! DEFINITION. The Beacon Timing Engine family (40_beacon_timing.md R110 to R121): CNT, EDGE, CAP_ISR, OVF_ISR, DIAG. -/

namespace Sys2Proof.Machine

/-- CNT's effect (40_beacon_timing.md R110): the counter advances modulo 2^W; the wrap to 0 sets the indicator. -/
def advanceCounter (s : State) : State :=
  let next := (s.cnt + 1) % 2 ^ s.cfg.w
  { s with cnt := next, ovfPending := if next = 0 then true else s.ovfPending }

/-- CNT (40_beacon_timing.md R110). -/
def execCnt (s : State) : Host.Outcome State Fault Refusal := whileMotionRuns s (advanceCounter s)

/-- EDGE's effect (40_beacon_timing.md R111): the capture latch takes the counter, or CAPTURE_OVERRUN. -/
def captureEdge (s : State) : State :=
  if s.capPending then raiseFault .captureOverrun s
  else { s with capVal := s.cnt, capPending := true }

/-- EDGE (40_beacon_timing.md R111). -/
def execEdge (s : State) : Host.Outcome State Fault Refusal := whileMotionRuns s (captureEdge s)

/-- The first part of CAP_ISR (40_beacon_timing.md R112, R113): the notification is consumed and a pending rollover is
attributed to before the capture where the capture is in the lower half. -/
def attributeRollover (s : State) : State :=
  if attributesRollover s.cfg s.ovfPending s.capVal then
    { s with capPending := false, rc := nextRollover s.cfg s.rc, ovfPending := false }
  else { s with capPending := false }

/-- The smoothing update and the classification of a sample (40_beacon_timing.md R115 to R117). -/
def takeSample (ts : Ticks) (s : State) : State :=
  let s1 := { s with smooth := smoothed s.haveSmooth s.smooth (sampleDelta ts s.prevTs), haveSmooth := true }
  if qualifies s1.cfg s1.smooth then post (.beaconDetected .engine) s1 else s1

/-- CAP_ISR's effect (40_beacon_timing.md R112 to R118). -/
def handleCapture (s : State) : State :=
  let s1 := attributeRollover s
  let ts := composeTimestamp s1.cfg s1.rc s1.capVal
  recordTimestamp ts (if s1.havePrev then takeSample ts s1 else s1)

/-- CAP_ISR (40_beacon_timing.md R112): enabled while a capture is pending. -/
def execCapIsr (s : State) : Host.Outcome State Fault Refusal :=
  if s.faultM = 0#4 ∧ s.capPending = false then .fault .noCapturePending
  else whileMotionRuns s (handleCapture s)

/-- OVF_ISR's effect (40_beacon_timing.md R119). -/
def countRollover (s : State) : State := { s with rc := nextRollover s.cfg s.rc, ovfPending := false }

/-- OVF_ISR (40_beacon_timing.md R119): enabled while a rollover and no capture is pending. -/
def execOvfIsr (s : State) : Host.Outcome State Fault Refusal :=
  if s.faultM = 0#4 ∧ s.ovfPending = false then .fault .noRolloverPending
  else if s.faultM = 0#4 ∧ s.capPending = true then .fault .capturePendingFirst
  else whileMotionRuns s (countRollover s)

/-- DIAG (40_beacon_timing.md R121): reports the estimate and writes nothing. -/
def execDiag (s : State) : Host.Outcome State Fault Refusal :=
  whileMotionRuns s (emit (.diagReport (freq s.cfg s.smooth) s.smooth) s)

end Sys2Proof.Machine
end

