-- ==== Sys2Proof/Machine/Link.lean ====
section
/-! DEFINITION. The Command Link family (41_command_link.md R140 to R146): CMD_IN, POLL, POLL_NOISY, and the link bytes
themselves, each with the meaning the Poller gives it when it arrives (R143; log 1). -/

namespace Sys2Proof.Machine

/-- CMD_IN's effect (41_command_link.md R140): a kind other than the held one, or STOP, is held and its flag queued. -/
def acceptCommand (k : CmdKind) (s : State) : State :=
  if s.cfg.code.byte k ≠ s.rHeld ∨ k = .stop then
    { s with rHeld := s.cfg.code.byte k, rState := .flagQueued }
  else s

/-- CMD_IN k (41_command_link.md R140): enabled while the command chip runs. -/
def execCmdIn (k : CmdKind) (s : State) : Host.Outcome State Fault Refusal :=
  if s.faultC = 0#1 then .next (acceptCommand k s) else .fault .commandHalted

/-- POLL's effect (41_command_link.md R142): one exchange, and the Poller receives the byte it returns. -/
def pollOnce (s : State) : State := pollerReceive (responderExchange s).1 (responderExchange s).2

/-- POLL (41_command_link.md R142). -/
def execPoll (s : State) : Host.Outcome State Fault Refusal := whileMotionRuns s (pollOnce s)

/-- POLL_NOISY's effect (41_command_link.md R146): the Responder sends and advances, the Poller receives `x`. -/
def pollNoisyOnce (x : Byte) (s : State) : State := pollerReceive x (responderExchange s).2

/-- POLL_NOISY x (41_command_link.md R146): enabled where LINK_NOISE is true. -/
def execPollNoisy (x : Byte) (s : State) : Host.Outcome State Fault Refusal :=
  if s.faultM = 0#4 ∧ s.cfg.linkNoise = false then .fault .linkNoiseOff
  else whileMotionRuns s (pollNoisyOnce x s)

/-! ### The link bytes, as the Poller receives them -/

/-- FLAG (30_encoding.md R82, 41_command_link.md R143). -/
def execFlag (s : State) : Host.Outcome State Fault Refusal := whileMotionRuns s (pollerReceive Config.flagByte s)

/-- CMD.STOP: the byte CODE(STOP) (30_encoding.md R83, 41_command_link.md R143). -/
def execCmdStop (s : State) : Host.Outcome State Fault Refusal :=
  whileMotionRuns s (pollerReceive (s.cfg.code.byte .stop) s)

/-- CMD.ROT_CW_90: the byte CODE(ROT_CW_90) (30_encoding.md R83, 41_command_link.md R143). -/
def execCmdRotCw90 (s : State) : Host.Outcome State Fault Refusal :=
  whileMotionRuns s (pollerReceive (s.cfg.code.byte .rotCw90) s)

/-- CMD.ROT_CW_45: the byte CODE(ROT_CW_45) (30_encoding.md R83, 41_command_link.md R143). -/
def execCmdRotCw45 (s : State) : Host.Outcome State Fault Refusal :=
  whileMotionRuns s (pollerReceive (s.cfg.code.byte .rotCw45) s)

/-- CMD.ROT_CCW_90: the byte CODE(ROT_CCW_90) (30_encoding.md R83, 41_command_link.md R143). -/
def execCmdRotCcw90 (s : State) : Host.Outcome State Fault Refusal :=
  whileMotionRuns s (pollerReceive (s.cfg.code.byte .rotCcw90) s)

/-- CMD.ROT_CCW_45: the byte CODE(ROT_CCW_45) (30_encoding.md R83, 41_command_link.md R143). -/
def execCmdRotCcw45 (s : State) : Host.Outcome State Fault Refusal :=
  whileMotionRuns s (pollerReceive (s.cfg.code.byte .rotCcw45) s)

/-- CMD.FWD_HALF: the byte CODE(FWD_HALF) (30_encoding.md R83, 41_command_link.md R143). -/
def execCmdFwdHalf (s : State) : Host.Outcome State Fault Refusal :=
  whileMotionRuns s (pollerReceive (s.cfg.code.byte .fwdHalf) s)

/-- CMD.FWD_FULL: the byte CODE(FWD_FULL) (30_encoding.md R83, 41_command_link.md R143). -/
def execCmdFwdFull (s : State) : Host.Outcome State Fault Refusal :=
  whileMotionRuns s (pollerReceive (s.cfg.code.byte .fwdFull) s)

/-- CMD.REV_HALF: the byte CODE(REV_HALF) (30_encoding.md R83, 41_command_link.md R143). -/
def execCmdRevHalf (s : State) : Host.Outcome State Fault Refusal :=
  whileMotionRuns s (pollerReceive (s.cfg.code.byte .revHalf) s)

/-- CMD.REV_FULL: the byte CODE(REV_FULL) (30_encoding.md R83, 41_command_link.md R143). -/
def execCmdRevFull (s : State) : Host.Outcome State Fault Refusal :=
  whileMotionRuns s (pollerReceive (s.cfg.code.byte .revFull) s)

/-- CMD.ALIGN: the byte CODE(ALIGN) (30_encoding.md R83, 41_command_link.md R143). -/
def execCmdAlign (s : State) : Host.Outcome State Fault Refusal :=
  whileMotionRuns s (pollerReceive (s.cfg.code.byte .align) s)

/-- CMD.SEARCH_TAPE: the byte CODE(SEARCH_TAPE) (30_encoding.md R83, 41_command_link.md R143). -/
def execCmdSearchTape (s : State) : Host.Outcome State Fault Refusal :=
  whileMotionRuns s (pollerReceive (s.cfg.code.byte .searchTape) s)

end Sys2Proof.Machine
end

