-- ==== Sys2Proof/Machine/Reset.lean ====
section
/-! DEFINITION. The two resets (70_reset_and_hazards.md R260, R261, R263). Each is enabled always, takes one draw, emits
nothing and leaves the other chip, the sensor levels and the output trace alone. -/

namespace Sys2Proof.Machine

/-- The motion chip's registers after its reset (70_reset_and_hazards.md R260, 10_state.md R52). -/
def motionReset (ok : Bool) (s : State) : State :=
  { s with
    cnt := 0
    ovfPending := false
    capVal := 0
    capPending := false
    rc := 0
    prevTs := 0#32
    havePrev := false
    smooth := 0#32
    haveSmooth := false
    pLatch := false
    pLast := s.cfg.code.byte .stop
    bState := .stopped
    q := []
    tActive := false
    tCount := 0
    tEpoch := 0#12
    actL := Wheel.stopped
    actR := Wheel.stopped
    faultM := faultMAfterReset ok }

/-- RESET_M (70_reset_and_hazards.md R260). -/
def execResetM (s : State) : Host.Outcome State Fault Refusal :=
  .next (motionReset (drawInitOkM s).1 (drawInitOkM s).2)

/-- The command chip's registers after its reset (70_reset_and_hazards.md R261, 10_state.md R52). -/
def commandReset (ok : Bool) (s : State) : State :=
  { s with rState := .awaitingCommand, rHeld := s.cfg.code.byte .stop, faultC := faultCAfterReset ok }

/-- RESET_C (70_reset_and_hazards.md R261). -/
def execResetC (s : State) : Host.Outcome State Fault Refusal :=
  .next (commandReset (drawInitOkC s).1 (drawInitOkC s).2)

end Sys2Proof.Machine
end

