-- ==== Sys2Proof/Machine/Dispatch.lean ====
section
/-! DEFINITION. One arm per constructor of Instr, each one direct call of its meaning. -/

namespace Sys2Proof.Machine

/-- What an instruction does. -/
def exec (i : Instr) (s : State) : Host.Outcome State Fault Refusal :=
  match i with
  | .cnt => Sys2Proof.Machine.execCnt s
  | .edge => Sys2Proof.Machine.execEdge s
  | .capIsr => Sys2Proof.Machine.execCapIsr s
  | .ovfIsr => Sys2Proof.Machine.execOvfIsr s
  | .diag => Sys2Proof.Machine.execDiag s
  | .cmdIn k => Sys2Proof.Machine.execCmdIn k s
  | .poll => Sys2Proof.Machine.execPoll s
  | .pollNoisy x => Sys2Proof.Machine.execPollNoisy x s
  | .dispatch => Sys2Proof.Machine.execDispatch s
  | .tmrTick => Sys2Proof.Machine.execTmrTick s
  | .beaconPin v => Sys2Proof.Machine.execBeaconPin v s
  | .tapePin v => Sys2Proof.Machine.execTapePin v s
  | .resetM => Sys2Proof.Machine.execResetM s
  | .resetC => Sys2Proof.Machine.execResetC s
  | .newCommand c => Sys2Proof.Machine.execNewCommand c s
  | .beaconEngine => Sys2Proof.Machine.execBeaconEngine s
  | .beaconSensor => Sys2Proof.Machine.execBeaconSensor s
  | .beaconSynthetic => Sys2Proof.Machine.execBeaconSynthetic s
  | .tapeSensor => Sys2Proof.Machine.execTapeSensor s
  | .tapeSynthetic => Sys2Proof.Machine.execTapeSynthetic s
  | .timeout tag => Sys2Proof.Machine.execTimeout tag s
  | .flag => Sys2Proof.Machine.execFlag s
  | .cmdStop => Sys2Proof.Machine.execCmdStop s
  | .cmdRotCw90 => Sys2Proof.Machine.execCmdRotCw90 s
  | .cmdRotCw45 => Sys2Proof.Machine.execCmdRotCw45 s
  | .cmdRotCcw90 => Sys2Proof.Machine.execCmdRotCcw90 s
  | .cmdRotCcw45 => Sys2Proof.Machine.execCmdRotCcw45 s
  | .cmdFwdHalf => Sys2Proof.Machine.execCmdFwdHalf s
  | .cmdFwdFull => Sys2Proof.Machine.execCmdFwdFull s
  | .cmdRevHalf => Sys2Proof.Machine.execCmdRevHalf s
  | .cmdRevFull => Sys2Proof.Machine.execCmdRevFull s
  | .cmdAlign => Sys2Proof.Machine.execCmdAlign s
  | .cmdSearchTape => Sys2Proof.Machine.execCmdSearchTape s

end Sys2Proof.Machine
end

