-- ==== Sys2Proof/Machine/Step.lean ====
section
/-! DEFINITION. One step: the next stimulus of the script is taken, decoded and executed (30_encoding.md R95, R96). -/

namespace Sys2Proof.Machine

/-- One step. Three outcomes: a next state, a fault (the spec's "stuck"), a refusal. -/
def step (s : State) : Host.Outcome State Fault Refusal :=
  match fetchStimulus s with
  | none => .refused .scriptEnded
  | some (w, s1) =>
    match decodeStimulus s1.cfg.linkNoise w with
    | .ok i => exec i s1
    | .error e => .refused (.illFormedWord e)

/-- `s` with a table row's word placed where the next step takes it (log 3, 10, 11, 12): a stimulus word at the head of
the script, an event entry at the head of the queue under a DISPATCH, a link byte prepared by the Responder under a
POLL. -/
def State.withFetchWord (s : State) (nbits w : Nat) : State :=
  match tableWord nbits w with
  | some e => placeEncoded e s
  | none => s

end Sys2Proof.Machine
end

