-- ==== Sys2Proof/Machine/Script.lean ====
section
/-! DEFINITION. Stimulus scripts as text (30_encoding.md R96) and the pseudo-operations (R97). A line's operation
assembles to a stimulus word by Decode's encoder; a pseudo-operation expands to operations and has no word of its own. -/

namespace Sys2Proof.Machine

/-- The pseudo-operations (30_encoding.md R97). -/
inductive Pseudo where
  | adv (n : Nat)
  | ticks (n : Nat)
  | capture
  | deliver (k : CmdKind)
  | drain
  deriving DecidableEq, Repr

/-- A script line: an operation or a pseudo-operation (30_encoding.md R96, R97). -/
inductive Line where
  | op (i : Instr)
  | pseudo (p : Pseudo)
  deriving DecidableEq, Repr

/-! ### Running a schedule -/

/-- Operations one after the other, each only if it can be taken; the first that cannot stops the script there
(30_encoding.md R96). -/
def runOps : List Instr → State → Host.Outcome State Fault Refusal
  | [], s => .next s
  | i :: rest, s =>
    match exec i s with
    | .next t => runOps rest t
    | .fault f => .fault f
    | .refused r => .refused r

/-- How many DISPATCH steps DRAIN takes: while the queue holds an entry, at most `fuel` (30_encoding.md R97). A
DISPATCH that cannot be taken counts as the last one. -/
def drainLength : Nat → State → Nat
  | 0, _ => 0
  | fuel + 1, s =>
    if s.q = [] then 0
    else
      match exec .dispatch s with
      | .next t => drainLength fuel t + 1
      | .fault _ => 1
      | .refused _ => 1

/-- The expansion of a pseudo-operation (30_encoding.md R97). DRAIN's depends on the state it starts from; its fuel is
QDEPTH + 16. -/
def Pseudo.expand (s : State) : Pseudo → List Instr
  | .adv n => List.replicate n .cnt
  | .ticks n => List.replicate n .tmrTick
  | .capture => [.edge, .capIsr]
  | .deliver k => [.cmdIn k, .poll, .poll]
  | .drain => List.replicate (drainLength (s.cfg.qdepth + 16) s) .dispatch

/-- The operations of a line, in the state it starts from. -/
def Line.ops (s : State) : Line → List Instr
  | .op i => [i]
  | .pseudo p => p.expand s

/-- A script, line by line (30_encoding.md R96). -/
def runScript : List Line → State → Host.Outcome State Fault Refusal
  | [], s => .next s
  | l :: rest, s =>
    match runOps (l.ops s) s with
    | .next t => runScript rest t
    | .fault f => .fault f
    | .refused r => .refused r

/-- The stimulus words of operations; the event entries and the link bytes are no stimuli and have none. -/
def stimulusWords (c : Config) : List Instr → List StimulusWord
  | [] => []
  | i :: rest =>
    match encode c i with
    | .stimulus w => w :: stimulusWords c rest
    | .entry _ => stimulusWords c rest
    | .link _ => stimulusWords c rest

/-! ### Script text (30_encoding.md R96). What R96 leaves open of it (blanks, case, number forms) is log 18. -/

/-- A `;` starts a comment to the end of the line. -/
def stripComment : List Char → List Char
  | [] => []
  | c :: rest => if c = ';' then [] else c :: stripComment rest

/-- The blank-separated tokens of a line; `acc` is the token being read. -/
def tokensFrom (acc : List Char) : List Char → List (List Char)
  | [] => if acc = [] then [] else [acc]
  | c :: rest =>
    if c = ' ' ∨ c = '\t' ∨ c = '\r' then
      if acc = [] then tokensFrom [] rest else acc :: tokensFrom [] rest
    else tokensFrom (acc ++ [c]) rest

/-- The value of a digit in base 16. -/
def digitValue (c : Char) : Option Nat :=
  if '0'.toNat ≤ c.toNat ∧ c.toNat ≤ '9'.toNat then some (c.toNat - '0'.toNat)
  else if 'A'.toNat ≤ c.toNat ∧ c.toNat ≤ 'F'.toNat then some (c.toNat - 'A'.toNat + 10)
  else if 'a'.toNat ≤ c.toNat ∧ c.toNat ≤ 'f'.toNat then some (c.toNat - 'a'.toNat + 10)
  else none

/-- Digits read in a base, after the value `acc`. -/
def digitsFrom (base acc : Nat) : List Char → Option Nat
  | [] => some acc
  | c :: rest =>
    match digitValue c with
    | some d => if d < base then digitsFrom base (acc * base + d) rest else none
    | none => none

/-- A number: `0x` and hexadecimal digits (00_scope.md R11), or decimal digits. -/
def parseNumber : List Char → Option Nat
  | [] => none
  | '0' :: 'x' :: d :: rest => digitsFrom 16 0 (d :: rest)
  | c :: rest => digitsFrom 10 0 (c :: rest)

/-- A byte operand. -/
def parseByte (t : List Char) : Option Byte :=
  match parseNumber t with
  | some n => if n < 256 then some (BitVec.ofNat 8 n) else none
  | none => none

/-- A level operand, `0` or `1`. -/
def parseLevel (t : List Char) : Option Bool :=
  if t = ['0'] then some false else if t = ['1'] then some true else none

/-- The spec's name of a command kind (00_scope.md R18). -/
def kindName : CmdKind → List Char
  | .stop => "STOP".toList
  | .rotCw90 => "ROT_CW_90".toList
  | .rotCw45 => "ROT_CW_45".toList
  | .rotCcw90 => "ROT_CCW_90".toList
  | .rotCcw45 => "ROT_CCW_45".toList
  | .fwdHalf => "FWD_HALF".toList
  | .fwdFull => "FWD_FULL".toList
  | .revHalf => "REV_HALF".toList
  | .revFull => "REV_FULL".toList
  | .align => "ALIGN".toList
  | .searchTape => "SEARCH_TAPE".toList

/-- A kind operand. -/
def parseKind (t : List Char) : Option CmdKind := CmdKind.all.find? (fun k => kindName k == t)

/-- The operations without an operand, by mnemonic (30_encoding.md R93, R97). -/
def plainOps : List (List Char × Line) :=
  [("CNT".toList, .op .cnt), ("EDGE".toList, .op .edge), ("CAP_ISR".toList, .op .capIsr),
   ("OVF_ISR".toList, .op .ovfIsr), ("DIAG".toList, .op .diag), ("POLL".toList, .op .poll),
   ("DISPATCH".toList, .op .dispatch), ("TMR_TICK".toList, .op .tmrTick), ("RESET_M".toList, .op .resetM),
   ("RESET_C".toList, .op .resetC), ("CAPTURE".toList, .pseudo .capture), ("DRAIN".toList, .pseudo .drain)]

/-- The operations with one operand, by mnemonic (30_encoding.md R93, R96, R97). -/
def parseWithOperand (m t : List Char) : Option Line :=
  if m = "CMD_IN".toList then (parseKind t).map (fun k => .op (.cmdIn k))
  else if m = "POLL_NOISY".toList then (parseByte t).map (fun x => .op (.pollNoisy x))
  else if m = "BEACON_PIN".toList then (parseLevel t).map (fun v => .op (.beaconPin v))
  else if m = "TAPE_PIN".toList then (parseLevel t).map (fun v => .op (.tapePin v))
  else if m = "ADV".toList then (parseNumber t).map (fun n => .pseudo (.adv n))
  else if m = "TICKS".toList then (parseNumber t).map (fun n => .pseudo (.ticks n))
  else if m = "DELIVER".toList then (parseKind t).map (fun k => .pseudo (.deliver k))
  else none

/-- One line of text: nothing (blank or comment only), or one operation; `none` where it spells neither. -/
def parseLine (text : List Char) : Option (List Line) :=
  match tokensFrom [] (stripComment text) with
  | [] => some []
  | [m] => (plainOps.find? (fun p => p.1 == m)).map (fun p => [p.2])
  | [m, t] => (parseWithOperand m t).map (fun l => [l])
  | _ :: _ :: _ :: _ => none

/-- A script's text, one operation a line; `none` where some line spells no operation. -/
def parseScript : List (List Char) → Option (List Line)
  | [] => some []
  | text :: rest =>
    match parseLine text, parseScript rest with
    | some l, some ls => some (l ++ ls)
    | _, _ => none

end Sys2Proof.Machine
end

