-- ==== Sys2Proof/Safety.lean ====
section
/-! DEFINITION. What the claims call a good state, and the ghost histories that R123 (true counts) and R197 (epochs)
speak of. Nothing here is read by the machine. -/

namespace Sys2Proof.Machine

/-! ### The invariant -/

/-- Every register holds a value of its width (10_state.md R21, R23, R25, R40) and the wheels' speeds lie in
0..DUTY_MAX (R42). -/
def RegistersInRange (s : State) : Prop :=
  s.cnt < 2 ^ s.cfg.w ∧ s.capVal < 2 ^ s.cfg.w ∧ s.rc < 2 ^ s.cfg.rcw ∧ s.tCount < 2 ^ s.cfg.tcw ∧
  s.actL.speed ≤ s.cfg.dutyMax ∧ s.actR.speed ≤ s.cfg.dutyMax

/-- The queue holds at most QDEPTH entries (10_state.md R38), each well formed (30_encoding.md R91). -/
def QueueCanonical (s : State) : Prop :=
  s.q.length ≤ s.cfg.qdepth ∧ ∀ e ∈ s.q, EntryWord.wellFormed e = true

/-- In Stopped no timer runs and the wheels stand (42_behavior_controller.md R196). -/
def StoppedIsQuiet (s : State) : Prop :=
  s.bState = .stopped → s.tActive = false ∧ s.actL = Wheel.stopped ∧ s.actR = Wheel.stopped

/-- An armed timer has a tick left (42_behavior_controller.md R172, R192). -/
def TimerHasTicks (s : State) : Prop := s.tActive = true → 1 ≤ s.tCount

/-- A smoothed interval presupposes a timestamp, and before the first sample it is 0 (10_state.md R27 to R29). -/
def EngineOrdered (s : State) : Prop :=
  (s.haveSmooth = true → s.havePrev = true) ∧ (s.haveSmooth = false → s.smooth = 0#32)

/-- The Responder holds and the Poller remembers command codes only (10_state.md R32, R36). -/
def CodesHeld (s : State) : Prop :=
  (∃ k, s.rHeld = s.cfg.code.byte k) ∧ (∃ k, s.pLast = s.cfg.code.byte k)

/-- BAD_EVENT, which no rule can cause, is not set (60_exceptions.md R228). -/
def NoBadEvent (s : State) : Prop := s.faultM &&& 8#4 = 0#4

/-- The invariant of the machine. -/
structure MachineInv (s : State) : Prop where
  legal : s.cfg.Legal
  registers : RegistersInRange s
  queue : QueueCanonical s
  quiet : StoppedIsQuiet s
  timer : TimerHasTicks s
  engine : EngineOrdered s
  codes : CodesHeld s
  events : NoBadEvent s

/-! ### True counts (40_beacon_timing.md R123) -/

/-- A history of counts since the motion chip's reset: CNT steps so far, their number at the last edge captured, and
at the edge whose timestamp is PREV_TS. -/
structure Counts where
  now : Nat
  edge : Nat
  prev : Nat
  deriving DecidableEq, Repr

/-- The history after an instruction. -/
def Counts.after (s : State) (i : Instr) (g : Counts) : Counts :=
  match i with
  | .cnt => { g with now := g.now + 1 }
  | .edge => if s.capPending then g else { g with edge := g.now }
  | .capIsr => { g with prev := g.edge }
  | .resetM => { now := 0, edge := 0, prev := 0 }
  | .ovfIsr | .diag | .cmdIn _ | .poll | .pollNoisy _ | .dispatch | .tmrTick | .beaconPin _ | .tapePin _ | .resetC
  | .newCommand _ | .beaconEngine | .beaconSensor | .beaconSynthetic | .tapeSensor | .tapeSynthetic | .timeout _
  | .flag | .cmdStop | .cmdRotCw90 | .cmdRotCw45 | .cmdRotCcw90 | .cmdRotCcw45 | .cmdFwdHalf | .cmdFwdFull
  | .cmdRevHalf | .cmdRevFull | .cmdAlign | .cmdSearchTape => g

/-- The latency premises of 70_reset_and_hazards.md R265 and R266 at the one instruction that can break them: after a
CNT, a pending capture is fewer than HALF counts old and a pending wrap lies fewer than HALF counts back. -/
def Prompt (s : State) (i : Instr) (g : Counts) : Prop :=
  i = .cnt →
    (s.capPending = true → g.now + 1 - g.edge < s.cfg.half) ∧ (s.ovfPending = true → s.cnt + 1 < s.cfg.half)

/-- The engine's registers against the true counts. -/
structure CountsTrue (s : State) (g : Counts) : Prop where
  width : 2 ≤ s.cfg.w ∧ s.cfg.w < 32
  counter : s.cnt = g.now % 2 ^ s.cfg.w
  rollovers : (s.rc + (if s.ovfPending then 1 else 0)) % 2 ^ s.cfg.rcw = g.now / 2 ^ s.cfg.w % 2 ^ s.cfg.rcw
  rcWidth : s.rc < 2 ^ s.cfg.rcw
  wrapRecent : s.ovfPending = true → s.cnt < s.cfg.half
  edgePast : g.prev ≤ g.edge ∧ g.edge ≤ g.now
  captured : s.capPending = true → s.capVal = g.edge % 2 ^ s.cfg.w ∧ g.now - g.edge < s.cfg.half ∧
    (s.ovfPending = false → g.edge / 2 ^ s.cfg.w = g.now / 2 ^ s.cfg.w)
  previous : s.havePrev = true → s.prevTs.toNat = g.prev % 2 ^ 32

/-! ### State exits (42_behavior_controller.md R197) -/

/-- A history of state exits since the motion chip's reset: how many, and for each entry of the queue how many there
had been when it was posted. -/
structure Exits where
  count : Nat
  posted : List Nat
  deriving DecidableEq, Repr

/-- The history after a stimulus `i` that led from `s` to `t`. Only DISPATCH takes an entry off and only DISPATCH
leaves a state. -/
def Exits.after (s : State) (i : Instr) (t : State) (g : Exits) : Exits :=
  if i = .resetM then { count := 0, posted := [] }
  else if i = .dispatch then
    let count := if s.bState ≠ .stopped ∧ t.bState = .stopped then g.count + 1 else g.count
    { count := count
      posted := g.posted.tail ++ (if t.q.length = s.q.length then [count] else []) }
  else
    { count := g.count
      posted := g.posted ++ (if t.q.length = s.q.length then [] else [g.count]) }

/-- T_EPOCH and the TIMEOUT tags against the true exits. An entry at place `j` was posted fewer than QDEPTH - j exits
ago; a TIMEOUT posted since the latest exit finds the machine out of Stopped. -/
structure ExitsTrue (s : State) (g : Exits) : Prop where
  depth : 1 ≤ s.cfg.qdepth ∧ s.cfg.qdepth < 2 ^ 12
  bounded : s.q.length ≤ s.cfg.qdepth
  epoch : s.tEpoch.toNat = g.count % 2 ^ 12
  parallel : g.posted.length = s.q.length
  quiet : s.bState = .stopped → s.tActive = false
  recent : ∀ (j n : Nat), g.posted[j]? = some n → n ≤ g.count ∧ g.count - n + j + 1 ≤ s.cfg.qdepth
  tags : ∀ (j : Nat) (e : EntryWord) (n : Nat), s.q[j]? = some e → g.posted[j]? = some n → ∀ tag, decodeEntry e = .ok (.timeout tag) →
    tag.toNat = n % 2 ^ 12 ∧ (n = g.count → s.bState ≠ .stopped)

end Sys2Proof.Machine
end

