-- ==== Sys2Proof/Certificates/Slice0/Obligations.lean ====
section
/-! DEFINITION. The statements for the provers. The helpers of namespace Claims spell the rules' effects out on records,
without the model's own operations. A statement holds for every configuration it does not constrain: State carries the
configuration (log 2). -/

namespace Sys2Proof.Claims

open Sys2Proof.Machine

/-- `(0, F)`. -/
def still : Wheel := { speed := 0#8, dir := .forward }

/-- The 24-bit word of an entry from its fields as numbers (30_encoding.md R88). -/
def entryOf (type arg tag : Nat) : EntryWord := BitVec.ofNat 24 (type * 2 ^ 20 + arg * 2 ^ 12 + tag)

/-- An actuation request: the registers and the record (42_behavior_controller.md R173). -/
def requested (l r : Wheel) (s : State) : State :=
  { s with actL := l, actR := r, out := s.out ++ [.actuate l r] }

/-- A raised fault: its bit, and zero actuation (60_exceptions.md R225). -/
def faulted (bit : BitVec 4) (s : State) : State := { requested still still s with faultM := s.faultM ||| bit }

/-- An entry posted, or QUEUE_OVERFLOW (20_memory.md R62). -/
def posted (e : EntryWord) (s : State) : State :=
  if s.q.length = s.cfg.qdepth then faulted 2#4 s else { s with q := s.q ++ [e] }

/-- An action ended: zero actuation, timer off, next epoch, Stopped (42_behavior_controller.md R171, R182). -/
def ended (s : State) : State :=
  { requested still still s with tActive := false, tEpoch := s.tEpoch + 1#12, bState := .stopped }

/-- What the Poller makes of a byte (41_command_link.md R143 to R145), for a legal code table. -/
def Received (b : Byte) (s t : State) : Prop :=
  (b = 0xFF#8 → t = { s with pLatch := true }) ∧
  (b ≠ 0xFF#8 → s.pLatch = false → t = s) ∧
  (∀ k, s.cfg.code.Legal → s.cfg.code.byte k = b → s.pLatch = true →
    t = if s.cfg.suppressEqualAfterFlag = false ∨ b ≠ s.pLast then
          { posted (entryOf 1 b.toNat 0) s with pLast := b, pLatch := false }
        else { s with pLatch := false }) ∧
  (b ≠ 0xFF#8 → (∀ k, s.cfg.code.byte k ≠ b) → s.pLatch = true →
    t = { s with out := s.out ++ [.protoErr b], pLatch := false })

/-- The Responder's state after an exchange (41_command_link.md R141). -/
def afterExchange (l : LinkState) : LinkState := if l = .flagQueued then .payloadQueued else .awaitingCommand

/-- CAP_ISR on numbers (40_beacon_timing.md R112 to R118, R120). -/
def captured (s : State) : State :=
  let rc := if s.ovfPending = true ∧ s.capVal < 2 ^ (s.cfg.w - 1) then (s.rc + 1) % 2 ^ (32 - s.cfg.w) else s.rc
  let ovf := if s.ovfPending = true ∧ s.capVal < 2 ^ (s.cfg.w - 1) then false else s.ovfPending
  let ts := (rc * 2 ^ s.cfg.w ||| s.capVal) % 2 ^ 32
  let s1 := { s with capPending := false, rc := rc, ovfPending := ovf }
  if s.havePrev = false then { s1 with prevTs := BitVec.ofNat 32 ts, havePrev := true }
  else
    let delta := (ts + 2 ^ 32 - s.prevTs.toNat) % 2 ^ 32
    let sm := if s.haveSmooth = true then (delta + 5 * s.smooth.toNat) / 6 else delta
    let f := if sm = 0 then 0 else s.cfg.srcClk / s.cfg.prescale / (sm * s.cfg.capDiv)
    let s2 :=
      { s1 with prevTs := BitVec.ofNat 32 ts, havePrev := true, smooth := BitVec.ofNat 32 sm, haveSmooth := true }
    if 1427 < f + s.cfg.tol ∧ f < 1427 + s.cfg.tol then posted 0x200000#24 s2 else s2

/-- The rows of format E. -/
def isEntry : Instr → Bool
  | .newCommand _ | .beaconEngine | .beaconSensor | .beaconSynthetic | .tapeSensor | .tapeSynthetic | .timeout _ => true
  | _ => false

/-- The rows of format L. -/
def isLinkByte : Instr → Bool
  | .flag | .cmdStop | .cmdRotCw90 | .cmdRotCw45 | .cmdRotCcw90 | .cmdRotCcw45 | .cmdFwdHalf | .cmdFwdFull
  | .cmdRevHalf | .cmdRevFull | .cmdAlign | .cmdSearchTape => true
  | _ => false

/-- POLL and POLL_NOISY. -/
def isPoll : Instr → Bool
  | .poll | .pollNoisy _ => true
  | _ => false

/-- CMD_IN. -/
def isCmdIn : Instr → Bool
  | .cmdIn _ => true
  | _ => false

/-- BEACON_PIN and TAPE_PIN. -/
def isPin : Instr → Bool
  | .beaconPin _ | .tapePin _ => true
  | _ => false

/-- The instructions other than DISPATCH that can post. -/
def canPost (i : Instr) : Bool :=
  i == .capIsr || i == .tmrTick || isPoll i || isPin i || isEntry i || isLinkByte i

/-- The motion chip's registers as RESET_M leaves them (70_reset_and_hazards.md R260). -/
def motionCleared (faultM : BitVec 4) (s : State) : State :=
  { s with
    cnt := 0, ovfPending := false, capVal := 0, capPending := false, rc := 0, prevTs := 0#32, havePrev := false,
    smooth := 0#32, haveSmooth := false, pLatch := false, pLast := s.cfg.code.byte .stop, bState := .stopped, q := [],
    tActive := false, tCount := 0, tEpoch := 0#12, actL := still, actR := still, faultM := faultM }

/-- The command chip's registers as RESET_C leaves them (70_reset_and_hazards.md R261). -/
def commandCleared (faultC : BitVec 1) (s : State) : State :=
  { s with rState := .awaitingCommand, rHeld := s.cfg.code.byte .stop, faultC := faultC }

end Sys2Proof.Claims

open Sys2Proof Sys2Proof.Machine Sys2Proof.Claims

/-! ### Encoding -/

/-- Every well-formed instruction, with every operand, is what the decoder reads from its own word. -/
def Obligations.DecodingAnEncodedInstructionGivesItBack : Prop :=
  ∀ (c : Config) (i : Instr), c.code.Legal → i.wellFormed c = true → decode c (encode c i) = .ok i

/-- A word that decodes is the word of what it decodes to: no two words spell one instruction and no bit is dropped. -/
def Obligations.EncodingADecodedWordGivesItBack : Prop :=
  ∀ (c : Config) (e : Encoded) (i : Instr), decode c e = .ok i → encode c i = e

/-- 30_encoding.md R95: exactly the words that R95 does not list spell an operation, and on the others there is no
step. -/
def Obligations.IllFormedStimulusWordsAreRefused : Prop :=
  ∀ (s : State) (w : StimulusWord) (rest : List StimulusWord),
    ((∃ i, decodeStimulus s.cfg.linkNoise w = .ok i) ↔ StimulusWord.wellFormed s.cfg w = true) ∧
    (s.script = w :: rest → StimulusWord.wellFormed s.cfg w = false → ∃ why, step s = .refused (.illFormedWord why))

/-- 30_encoding.md R91, 60_exceptions.md R228: exactly the reserved entries decode to nothing, and one of them at the
head raises BAD_EVENT, is removed, and runs no handler. -/
def Obligations.ReservedEntriesRaiseBadEvent : Prop :=
  ∀ (s : State) (e : EntryWord) (rest : List EntryWord),
    ((∃ en, decodeEntry e = .ok en) ↔ EntryWord.wellFormed e = true) ∧
    (s.faultM = 0#4 → s.q = e :: rest → EntryWord.wellFormed e = false →
      exec .dispatch s = .next (faulted 8#4 { s with q := rest }))

/-- 30_encoding.md R81, R82. -/
def Obligations.LinkBytesAreClassified : Prop :=
  ∀ (t : CodeTable) (b : Byte), t.Legal →
    classify t 0xFF#8 = .flag ∧
    (∀ k, classify t 0xFF#8 ≠ .cmd k) ∧
    (∀ k, t.byte k = b → classify t b = .cmd k) ∧
    (b ≠ 0xFF#8 → (∀ k, t.byte k ≠ b) → classify t b = .invalid)

/-- Words written out from 30_encoding.md R84, R88 to R90, R93, R94 decode to what they stand for. -/
def Obligations.WrittenOutWordsDecode : Prop :=
  decode tableConfig (.stimulus 0x18000000#32) = .ok .capIsr ∧
  decode tableConfig (.stimulus 0x30000006#32) = .ok (.cmdIn .fwdFull) ∧
  decode tableConfig (.stimulus 0x40000007#32) = .ok (.pollNoisy 0x07#8) ∧
  decode Config.rc1 (.stimulus 0x40000007#32) = .error .linkNoiseOff ∧
  decode tableConfig (.stimulus 0x58000001#32) = .ok (.beaconPin true) ∧
  decode tableConfig (.stimulus 0x70000000#32) = .ok .resetC ∧
  decode tableConfig (.entry 0x109000#24) = .ok (.newCommand 0x09#8) ∧
  decode tableConfig (.entry 0x202000#24) = .ok .beaconSynthetic ∧
  decode tableConfig (.entry 0x301000#24) = .ok .tapeSensor ∧
  decode tableConfig (.entry 0x400FFF#24) = .ok (.timeout 0xFFF#12) ∧
  decode tableConfig (.link 0xFF#8) = .ok .flag ∧
  decode tableConfig (.link 0x09#8) = .ok .cmdFwdFull

/-! ### A step runs the decoded instruction -/

/-- The stimulus at the head of the script is taken off it and executed. -/
def Obligations.StepRunsTheDecodedStimulus : Prop :=
  ∀ (s : State) (w : StimulusWord) (rest : List StimulusWord) (i : Instr),
    s.script = w :: rest → decodeStimulus s.cfg.linkNoise w = .ok i → step s = exec i { s with script := rest }

/-- A DISPATCH takes the entry at the head of the queue off it and executes it. -/
def Obligations.StepRunsTheQueuedEntry : Prop :=
  ∀ (s : State) (rest : List StimulusWord) (e : EntryWord) (es : List EntryWord) (i : Instr),
    s.script = 0x48000000#32 :: rest → s.faultM = 0#4 → s.q = e :: es → decode s.cfg (.entry e) = .ok i →
    step s = exec i { s with script := rest, q := es }

/-- A POLL takes the byte the Responder has prepared and executes it. -/
def Obligations.StepRunsThePolledByte : Prop :=
  ∀ (s : State) (rest : List StimulusWord) (i : Instr),
    s.script = 0x38000000#32 :: rest → s.faultC = 0#1 →
    decode s.cfg (.link (if s.rState = .flagQueued then 0xFF#8 else s.rHeld)) = .ok i →
    step s = exec i { s with script := rest, rState := afterExchange s.rState }

/-! ### The Beacon Timing Engine -/

/-- 40_beacon_timing.md R110. -/
def Obligations.CntAdvancesAndFlagsTheWrap : Prop :=
  ∀ s : State,
    decodeStimulus s.cfg.linkNoise 0x08000000#32 = .ok .cnt ∧
    (s.faultM = 0#4 → exec .cnt s = .next
      { s with
        cnt := (s.cnt + 1) % 2 ^ s.cfg.w
        ovfPending := if (s.cnt + 1) % 2 ^ s.cfg.w = 0 then true else s.ovfPending }) ∧
    (s.faultM ≠ 0#4 → exec .cnt s = .fault .motionHalted)

/-- 40_beacon_timing.md R111, 60_exceptions.md R226. -/
def Obligations.EdgeLatchesTheCounterOrOverruns : Prop :=
  ∀ s : State,
    decodeStimulus s.cfg.linkNoise 0x10000000#32 = .ok .edge ∧
    (s.faultM = 0#4 → s.capPending = false → exec .edge s = .next { s with capVal := s.cnt, capPending := true }) ∧
    (s.faultM = 0#4 → s.capPending = true → exec .edge s = .next (faulted 4#4 s)) ∧
    (s.faultM ≠ 0#4 → exec .edge s = .fault .motionHalted)

/-- 40_beacon_timing.md R112, with its parts R113 to R118 and R120 computed on numbers. -/
def Obligations.CapIsrExtendsSmoothsAndClassifies : Prop :=
  ∀ s : State,
    decodeStimulus s.cfg.linkNoise 0x18000000#32 = .ok .capIsr ∧
    (s.faultM = 0#4 → s.capPending = true → exec .capIsr s = .next (captured s)) ∧
    (s.faultM = 0#4 → s.capPending = false → exec .capIsr s = .fault .noCapturePending) ∧
    (s.faultM ≠ 0#4 → exec .capIsr s = .fault .motionHalted)

/-- 40_beacon_timing.md R119. -/
def Obligations.OvfIsrCountsAPendingRollover : Prop :=
  ∀ s : State,
    decodeStimulus s.cfg.linkNoise 0x20000000#32 = .ok .ovfIsr ∧
    (s.faultM = 0#4 → s.ovfPending = true → s.capPending = false → exec .ovfIsr s = .next
      { s with rc := (s.rc + 1) % 2 ^ (32 - s.cfg.w), ovfPending := false }) ∧
    (s.faultM = 0#4 → s.ovfPending = false → exec .ovfIsr s = .fault .noRolloverPending) ∧
    (s.faultM = 0#4 → s.ovfPending = true → s.capPending = true → exec .ovfIsr s = .fault .capturePendingFirst) ∧
    (s.faultM ≠ 0#4 → exec .ovfIsr s = .fault .motionHalted)

/-- 40_beacon_timing.md R121, with R120's frequency on numbers. -/
def Obligations.DiagReportsAndWritesNothing : Prop :=
  ∀ s : State,
    decodeStimulus s.cfg.linkNoise 0x28000000#32 = .ok .diag ∧
    (s.faultM = 0#4 → exec .diag s = .next
      { s with out := s.out ++ [.diagReport
          (if s.smooth.toNat = 0 then 0 else s.cfg.srcClk / s.cfg.prescale / (s.smooth.toNat * s.cfg.capDiv))
          s.smooth] }) ∧
    (s.faultM ≠ 0#4 → exec .diag s = .fault .motionHalted)

/-- 40_beacon_timing.md R126: a smoothing step of CAP_ISR stays between the old value and the sample. -/
def Obligations.SmoothingStaysBetweenOldAndSample : Prop :=
  ∀ (smooth delta : Ticks),
    (smoothed true smooth delta).toNat = (delta.toNat + 5 * smooth.toNat) / 6 ∧
    min delta.toNat smooth.toNat ≤ (smoothed true smooth delta).toNat ∧
    (smoothed true smooth delta).toNat ≤ max delta.toNat smooth.toNat

/-- 40_beacon_timing.md R122: the composed timestamp splits into the rollover count and the captured value. -/
def Obligations.TimestampSplitsIntoCountAndCapture : Prop :=
  ∀ s t : State, s.cfg.w < 32 → RegistersInRange s → exec .capIsr s = .next t →
    t.prevTs.toNat % 2 ^ s.cfg.w = s.capVal ∧ t.prevTs.toNat / 2 ^ s.cfg.w = t.rc

/-- 40_beacon_timing.md R124: a capture that leaves the interval at 0 posts nothing, and its frequency reads 0. -/
def Obligations.ZeroIntervalIsNeverDetected : Prop :=
  ∀ s t : State, s.cfg.tol ≤ 1427 → exec .capIsr s = .next t → t.smooth = 0#32 →
    t.q = s.q ∧ t.faultM = 0#4 ∧ t.out = s.out ∧
    exec .diag t = .next { t with out := t.out ++ [.diagReport 0 0#32] }

/-- 40_beacon_timing.md R125: the band of detected intervals, and its ends under RC1. -/
def Obligations.DetectionBandIsExact : Prop :=
  ∀ (c : Config) (s : Ticks), c.Legal →
    (qualifies c s = true ↔
      0 < s.toNat ∧ 1427 - c.tol < c.srcClk / c.prescale / (s.toNat * c.capDiv) ∧
        c.srcClk / c.prescale / (s.toNat * c.capDiv) < 1427 + c.tol) ∧
    (qualifies Config.rc1 s = true ↔ 1728 ≤ s.toNat ∧ s.toNat ≤ 1775)

/-- 40_beacon_timing.md R123, the invariant: whatever runs, as long as CNT steps meet the latency premises, the
engine's registers stay true to the true counts. -/
def Obligations.PromptSchedulesKeepTheCountsTrue : Prop :=
  ∀ (s t : State) (i : Instr) (g : Counts),
    CountsTrue s g → Prompt s i g → exec i s = .next t → CountsTrue t (g.after s i)

/-- 40_beacon_timing.md R123, the consequence: a capture's timestamp is the true count at its edge modulo 2^32, and the
first sample is the true number of counts between the two edges where that is below 2^32. -/
def Obligations.CapturedTimestampsAreTrueCounts : Prop :=
  ∀ (s : State) (g : Counts), CountsTrue s g → s.faultM = 0#4 → s.capPending = true →
    ∃ t, exec .capIsr s = .next t ∧ t.prevTs.toNat = g.edge % 2 ^ 32 ∧
      (s.havePrev = true → s.haveSmooth = false → g.edge - g.prev < 2 ^ 32 → t.smooth.toNat = g.edge - g.prev) ∧
      (s.havePrev = true → s.haveSmooth = true → g.edge - g.prev < 2 ^ 32 →
        t.smooth.toNat = (g.edge - g.prev + 5 * s.smooth.toNat) / 6)

/-! ### The Command Link -/

/-- 41_command_link.md R140. -/
def Obligations.CmdInArmsTheResponder : Prop :=
  ∀ (s : State) (k : CmdKind),
    (∀ n, CmdKind.all[n]? = some k →
      decodeStimulus s.cfg.linkNoise (BitVec.ofNat 32 (0x30000000 + n)) = .ok (.cmdIn k)) ∧
    (s.faultC = 0#1 → s.cfg.code.byte k ≠ s.rHeld ∨ k = .stop →
      exec (.cmdIn k) s = .next { s with rHeld := s.cfg.code.byte k, rState := .flagQueued }) ∧
    (s.faultC = 0#1 → s.cfg.code.byte k = s.rHeld → k ≠ .stop → exec (.cmdIn k) s = .next s) ∧
    (s.faultC ≠ 0#1 → exec (.cmdIn k) s = .fault .commandHalted)

/-- The FLAG row and the eleven CMD rows: what the Poller does with the byte when it arrives (41_command_link.md R143;
that a byte is an instruction of its own is log 1). -/
def Obligations.LinkBytesAreReceived : Prop :=
  ∀ s : State,
    (s.faultM = 0#4 →
      (∃ t, exec .flag s = .next t ∧ Received 0xFF#8 s t) ∧
      ∀ k, ∃ t, exec (Instr.ofKind k) s = .next t ∧ Received (s.cfg.code.byte k) s t) ∧
    (s.faultM ≠ 0#4 →
      exec .flag s = .fault .motionHalted ∧ ∀ k, exec (Instr.ofKind k) s = .fault .motionHalted)

/-- 41_command_link.md R142 with R141 and R143: the prepared byte is received and the Responder advances once; from a
halted command chip some byte is received and the Responder stays. -/
def Obligations.PollReceivesThePreparedByte : Prop :=
  ∀ s : State,
    decodeStimulus s.cfg.linkNoise 0x38000000#32 = .ok .poll ∧
    (s.faultM = 0#4 → s.faultC = 0#1 →
      ∃ t, exec .poll s = .next t ∧
        Received (if s.rState = .flagQueued then 0xFF#8 else s.rHeld) { s with rState := afterExchange s.rState } t) ∧
    (s.faultM = 0#4 → s.faultC ≠ 0#1 →
      ∃ b bs n t, exec .poll s = .next t ∧ Received b { s with haltedByteIn := bs, drawCount := n } t) ∧
    (s.faultM ≠ 0#4 → exec .poll s = .fault .motionHalted)

/-- 41_command_link.md R141, the command chip halted: its reply is a free value. Where the environment has settled one,
any byte can be it; where it has not, it is some byte (log 7). -/
def Obligations.HaltedCommandChipRepliesAnyByte : Prop :=
  ∀ s : State, s.faultM = 0#4 → s.faultC ≠ 0#1 →
    (∀ b rest, s.haltedByteIn = b :: rest →
      ∃ t, exec .poll s = .next t ∧ Received b { s with haltedByteIn := rest } t) ∧
    (s.haltedByteIn = [] →
      ∃ b t, exec .poll s = .next t ∧ Received b { s with drawCount := s.drawCount + 1 } t)

/-- 41_command_link.md R146: the Responder advances as for POLL and the Poller receives the operand. -/
def Obligations.PollNoisyReceivesItsOperand : Prop :=
  ∀ (s : State) (x : Byte),
    decodeStimulus true (BitVec.ofNat 32 (0x40000000 + x.toNat)) = .ok (.pollNoisy x) ∧
    decodeStimulus false (BitVec.ofNat 32 (0x40000000 + x.toNat)) = .error .linkNoiseOff ∧
    (s.cfg.linkNoise = true → s.faultM = 0#4 → s.faultC = 0#1 →
      ∃ t, exec (.pollNoisy x) s = .next t ∧ Received x { s with rState := afterExchange s.rState } t) ∧
    (s.cfg.linkNoise = true → s.faultM = 0#4 → s.faultC ≠ 0#1 →
      ∃ bs n t, exec (.pollNoisy x) s = .next t ∧ Received x { s with haltedByteIn := bs, drawCount := n } t) ∧
    (s.cfg.linkNoise = false → s.faultM = 0#4 → exec (.pollNoisy x) s = .fault .linkNoiseOff) ∧
    (s.faultM ≠ 0#4 → exec (.pollNoisy x) s = .fault .motionHalted)

/-- 41_command_link.md R148 (and R151 for STOP): CMD_IN k; POLL; POLL posts exactly one NEW_COMMAND(CODE(k)). -/
def Obligations.DeliveryRoundTrip : Prop :=
  ∀ (s : State) (k : CmdKind),
    s.cfg.code.Legal → s.faultM = 0#4 → s.faultC = 0#1 → s.rState = .awaitingCommand → s.pLatch = false →
    s.rHeld ≠ s.cfg.code.byte k ∨ k = .stop →
    s.cfg.suppressEqualAfterFlag = false ∨ s.pLast ≠ s.cfg.code.byte k →
    s.q.length ≠ s.cfg.qdepth →
    runOps [.cmdIn k, .poll, .poll] s = .next
      { s with
        rHeld := s.cfg.code.byte k
        pLast := s.cfg.code.byte k
        q := s.q ++ [entryOf 1 (s.cfg.code.byte k).toNat 0] }

/-- 41_command_link.md R149: once a command is delivered, any number of polls changes nothing. -/
def Obligations.RepeatedPollsChangeNothing : Prop :=
  ∀ (s : State) (n : Nat),
    s.faultM = 0#4 → s.faultC = 0#1 → s.rState = .awaitingCommand → s.pLatch = false → s.rHeld ≠ 0xFF#8 →
    runOps (List.replicate n .poll) s = .next s

/-- 41_command_link.md R152: what a POLL posts is the held command, after a flag, and leaves the Responder in
AwaitingCommand. -/
def Obligations.OnlyFlaggedHeldCommandsAreForwarded : Prop :=
  ∀ (s t : State) (e : EntryWord),
    s.cfg.code.Legal → s.faultC = 0#1 → exec .poll s = .next t → t.q = s.q ++ [e] →
    s.pLatch = true ∧ s.rState ≠ .flagQueued ∧ e = entryOf 1 s.rHeld.toNat 0 ∧
      (∃ k, s.rHeld = s.cfg.code.byte k) ∧ t.rState = .awaitingCommand ∧ t.pLatch = false ∧ t.pLast = s.rHeld

/-- 70_reset_and_hazards.md R271: a reset of one chip in mid-handshake. -/
def Obligations.IndependentResetsMidHandshake : Prop :=
  ∀ s : State, s.cfg.code.Legal → 1 ≤ s.cfg.qdepth → s.faultM = 0#4 → s.faultC = 0#1 →
    (∀ rest, s.pLatch = true → s.initOkCIn = true :: rest → s.cfg.suppressEqualAfterFlag = false →
      s.q.length ≠ s.cfg.qdepth →
      ∃ t, runOps [.resetC, .poll] s = .next t ∧
        t.q = s.q ++ [entryOf 1 (s.cfg.code.byte .stop).toNat 0] ∧ t.pLatch = false) ∧
    (∀ rest, s.rState = .payloadQueued → s.rHeld ≠ 0xFF#8 → s.initOkMIn = true :: rest →
      ∃ t, runOps [.resetM, .poll] s = .next t ∧ t.q = [] ∧ t.pLatch = false ∧ t.rState = .awaitingCommand ∧
        t.rHeld = s.rHeld) ∧
    (∀ rest k, s.rState = .flagQueued → s.rHeld = s.cfg.code.byte k → s.cfg.suppressEqualAfterFlag = false →
      s.initOkMIn = true :: rest →
      ∃ t, runOps [.resetM, .poll, .poll] s = .next t ∧ t.q = [entryOf 1 s.rHeld.toNat 0] ∧
        t.rState = .awaitingCommand ∧ t.pLatch = false)

/-! ### The Behavior State Machine -/

/-- 42_behavior_controller.md R175, with the rotation rows of R173. -/
def Obligations.RotationsStartWithABoundedTimer : Prop :=
  ∀ s : State, s.cfg.code.Legal → s.faultM = 0#4 → s.bState = .stopped →
    exec (.newCommand (s.cfg.code.byte .rotCw90)) s = .next
      { requested ⟨s.cfg.dutyRot, .forward⟩ ⟨s.cfg.dutyRot, .reverse⟩ s with
        tActive := true, tCount := s.cfg.tRot90, bState := .simpleMoving } ∧
    exec (.newCommand (s.cfg.code.byte .rotCw45)) s = .next
      { requested ⟨s.cfg.dutyRot, .forward⟩ ⟨s.cfg.dutyRot, .reverse⟩ s with
        tActive := true, tCount := s.cfg.tRot45, bState := .simpleMoving } ∧
    exec (.newCommand (s.cfg.code.byte .rotCcw90)) s = .next
      { requested ⟨s.cfg.dutyRot, .reverse⟩ ⟨s.cfg.dutyRot, .forward⟩ s with
        tActive := true, tCount := s.cfg.tRot90, bState := .simpleMoving } ∧
    exec (.newCommand (s.cfg.code.byte .rotCcw45)) s = .next
      { requested ⟨s.cfg.dutyRot, .reverse⟩ ⟨s.cfg.dutyRot, .forward⟩ s with
        tActive := true, tCount := s.cfg.tRot45, bState := .simpleMoving }

/-- 42_behavior_controller.md R176, with the drive rows of R173: no timer field is written. -/
def Obligations.DrivesStartWithoutATimer : Prop :=
  ∀ s : State, s.cfg.code.Legal → s.faultM = 0#4 → s.bState = .stopped →
    exec (.newCommand (s.cfg.code.byte .fwdHalf)) s = .next
      { requested ⟨s.cfg.dutyHalf, .forward⟩ ⟨s.cfg.dutyHalf, .forward⟩ s with bState := .simpleMoving } ∧
    exec (.newCommand (s.cfg.code.byte .fwdFull)) s = .next
      { requested ⟨s.cfg.dutyFull, .forward⟩ ⟨s.cfg.dutyFull, .forward⟩ s with bState := .simpleMoving } ∧
    exec (.newCommand (s.cfg.code.byte .revHalf)) s = .next
      { requested ⟨s.cfg.dutyHalf, .reverse⟩ ⟨s.cfg.dutyHalf, .reverse⟩ s with bState := .simpleMoving } ∧
    exec (.newCommand (s.cfg.code.byte .revFull)) s = .next
      { requested ⟨s.cfg.dutyFull, .reverse⟩ ⟨s.cfg.dutyFull, .reverse⟩ s with bState := .simpleMoving }

/-- 42_behavior_controller.md R177, with the SPIN row of R173. -/
def Obligations.AlignSpinsOrTakesTheShortcut : Prop :=
  ∀ s : State, s.cfg.code.Legal → s.faultM = 0#4 → s.bState = .stopped →
    (s.beaconPin = true → exec (.newCommand (s.cfg.code.byte .align)) s = .next
      (posted 0x202000#24 { s with bState := .aligningWithBeacon })) ∧
    (s.beaconPin = false → s.cfg.spinDir = .cw → exec (.newCommand (s.cfg.code.byte .align)) s = .next
      { requested ⟨s.cfg.dutySpin, .forward⟩ ⟨s.cfg.dutySpin, .reverse⟩ s with
        tActive := true, tCount := s.cfg.tAlign, bState := .aligningWithBeacon }) ∧
    (s.beaconPin = false → s.cfg.spinDir = .ccw → exec (.newCommand (s.cfg.code.byte .align)) s = .next
      { requested ⟨s.cfg.dutySpin, .reverse⟩ ⟨s.cfg.dutySpin, .forward⟩ s with
        tActive := true, tCount := s.cfg.tAlign, bState := .aligningWithBeacon })

/-- 42_behavior_controller.md R178, with the TAPE_SEARCH row of R173. -/
def Obligations.SearchDrivesOrTakesTheShortcut : Prop :=
  ∀ s : State, s.cfg.code.Legal → s.faultM = 0#4 → s.bState = .stopped →
    (s.tapePin = false → exec (.newCommand (s.cfg.code.byte .searchTape)) s = .next
      (posted 0x302000#24 { s with bState := .searchingForTape })) ∧
    (s.tapePin = true → exec (.newCommand (s.cfg.code.byte .searchTape)) s = .next
      { requested ⟨s.cfg.dutySearch, .forward⟩ ⟨s.cfg.dutySearch, .forward⟩ s with
        tActive := true, tCount := s.cfg.tSearch, bState := .searchingForTape })

/-- 42_behavior_controller.md R179 and R174: STOP in Stopped zeroes the wheels; a byte off the whitelist is dropped. -/
def Obligations.StopAndUnknownCommandsStayStopped : Prop :=
  ∀ (s : State) (c : Byte), s.cfg.code.Legal → s.faultM = 0#4 → s.bState = .stopped →
    exec (.newCommand (s.cfg.code.byte .stop)) s = .next (requested still still s) ∧
    ((∀ k, s.cfg.code.byte k ≠ c) → exec (.newCommand c) s = .next s)

/-- 42_behavior_controller.md R181: preemption, in every state but Stopped and for every byte. -/
def Obligations.NewCommandsPreemptAndAreReposted : Prop :=
  ∀ (s : State) (c : Byte), s.faultM = 0#4 → s.bState ≠ .stopped →
    exec (.newCommand c) s = .next (posted (entryOf 1 c.toNat 0) (ended s))

/-- 42_behavior_controller.md R188, and R180, R183, R186 for the states that ignore the beacon; all three sources.
The halted clause is the model's choice (log 1, log 9): 60_exceptions.md R229 lists the halted chip's steps and names no
event entry, and no rule gives an entry an enabling condition. -/
def Obligations.BeaconEndsOnlyAnAlignment : Prop :=
  ∀ (s : State) (i : Instr), i = .beaconEngine ∨ i = .beaconSensor ∨ i = .beaconSynthetic →
    (s.faultM = 0#4 → s.bState = .aligningWithBeacon → exec i s = .next (ended s)) ∧
    (s.faultM = 0#4 → s.bState ≠ .aligningWithBeacon → exec i s = .next s) ∧
    (s.faultM ≠ 0#4 → exec i s = .fault .motionHalted)

/-- 42_behavior_controller.md R184, and R180, R183, R187 for the states that ignore the tape; both sources.
The halted clause is the model's choice (log 1, log 9): 60_exceptions.md R229 lists the halted chip's steps and names no
event entry, and no rule gives an entry an enabling condition. -/
def Obligations.TapeEndsOnlyASearch : Prop :=
  ∀ (s : State) (i : Instr), i = .tapeSensor ∨ i = .tapeSynthetic →
    (s.faultM = 0#4 → s.bState = .searchingForTape → exec i s = .next (ended s)) ∧
    (s.faultM = 0#4 → s.bState ≠ .searchingForTape → exec i s = .next s) ∧
    (s.faultM ≠ 0#4 → exec i s = .fault .motionHalted)

/-- 42_behavior_controller.md R182, R185, R189, R195, and R180 for Stopped.
The halted clause is the model's choice (log 1, log 9): 60_exceptions.md R229 lists the halted chip's steps and names no
event entry, and no rule gives an entry an enabling condition. -/
def Obligations.TimeoutsActOnlyInTheirOwnEpoch : Prop :=
  ∀ (s : State) (tag : Epoch),
    (s.faultM = 0#4 → tag = s.tEpoch → s.bState ≠ .stopped → exec (.timeout tag) s = .next (ended s)) ∧
    (s.faultM = 0#4 → tag ≠ s.tEpoch → exec (.timeout tag) s = .next s) ∧
    (s.faultM = 0#4 → s.bState = .stopped → exec (.timeout tag) s = .next s) ∧
    (s.faultM ≠ 0#4 → exec (.timeout tag) s = .fault .motionHalted)

/-- 42_behavior_controller.md R170: DISPATCH takes one entry and runs it in the current state; a reserved one raises
BAD_EVENT. -/
def Obligations.DispatchRunsTheHeadEntry : Prop :=
  ∀ s : State,
    decodeStimulus s.cfg.linkNoise 0x48000000#32 = .ok .dispatch ∧
    (∀ e rest i, s.faultM = 0#4 → s.q = e :: rest → decode s.cfg (.entry e) = .ok i →
      exec .dispatch s = exec i { s with q := rest }) ∧
    (∀ e rest, s.faultM = 0#4 → s.q = e :: rest → EntryWord.wellFormed e = false →
      exec .dispatch s = .next (faulted 8#4 { s with q := rest })) ∧
    (s.faultM = 0#4 → s.q = [] → exec .dispatch s = .fault .queueEmpty) ∧
    (s.faultM ≠ 0#4 → exec .dispatch s = .fault .motionHalted)

/-- 60_exceptions.md R242: DISPATCH completes on every well-formed head, posts at most one entry, and never overflows. -/
def Obligations.DispatchNeverOverflows : Prop :=
  ∀ (s : State) (e : EntryWord) (rest : List EntryWord),
    s.faultM = 0#4 → s.q = e :: rest → EntryWord.wellFormed e = true → s.q.length ≤ s.cfg.qdepth →
    ∃ t, exec .dispatch s = .next t ∧ t.faultM = 0#4 ∧ t.q.length ≤ s.cfg.qdepth ∧
      (t.q = rest ∨ ∃ e', EntryWord.wellFormed e' = true ∧ t.q = rest ++ [e'])

/-- 42_behavior_controller.md R198: one dispatch of a command in Stopped leaves Stopped, unless it is STOP, and arms the
timer of its class. -/
def Obligations.OneDispatchStartsTheCommand : Prop :=
  ∀ (s : State) (k : CmdKind) (rest : List EntryWord),
    s.cfg.code.Legal → s.faultM = 0#4 → s.bState = .stopped → s.tActive = false → k ≠ .stop →
    s.q = entryOf 1 (s.cfg.code.byte k).toNat 0 :: rest → s.q.length ≤ s.cfg.qdepth →
    ∃ t, exec .dispatch s = .next t ∧ t.bState ≠ .stopped ∧ t.tEpoch = s.tEpoch ∧
      (k = .rotCw90 ∨ k = .rotCcw90 → t.tActive = true ∧ t.tCount = s.cfg.tRot90 ∧ t.q = rest) ∧
      (k = .rotCw45 ∨ k = .rotCcw45 → t.tActive = true ∧ t.tCount = s.cfg.tRot45 ∧ t.q = rest) ∧
      (k = .fwdHalf ∨ k = .fwdFull ∨ k = .revHalf ∨ k = .revFull → t.tActive = false ∧ t.q = rest) ∧
      (k = .align → s.beaconPin = false → t.tActive = true ∧ t.tCount = s.cfg.tAlign ∧ t.q = rest) ∧
      (k = .align → s.beaconPin = true → t.tActive = false ∧ t.q = rest ++ [0x202000#24]) ∧
      (k = .searchTape → s.tapePin = true → t.tActive = true ∧ t.tCount = s.cfg.tSearch ∧ t.q = rest) ∧
      (k = .searchTape → s.tapePin = false → t.tActive = false ∧ t.q = rest ++ [0x302000#24])

/-- 42_behavior_controller.md R199: a timeout and a sensor signal in either order end in one and the same state. -/
def Obligations.TimeoutAndSensorRaceEndsAlike : Prop :=
  ∀ s : State, s.faultM = 0#4 → s.q = [] → 2 ≤ s.cfg.qdepth → 1 ≤ s.cfg.tcw → s.tActive = true → s.tCount = 1 →
    (s.bState = .searchingForTape → s.tapePin = true →
      runOps [.tapePin false, .tmrTick, .dispatch, .dispatch] s = .next { ended s with tapePin := false, tCount := 0 } ∧
      runOps [.tmrTick, .tapePin false, .dispatch, .dispatch] s = .next { ended s with tapePin := false, tCount := 0 }) ∧
    (s.bState = .aligningWithBeacon → s.beaconPin = false →
      runOps [.beaconPin true, .tmrTick, .dispatch, .dispatch] s = .next { ended s with beaconPin := true, tCount := 0 } ∧
      runOps [.tmrTick, .beaconPin true, .dispatch, .dispatch] s = .next { ended s with beaconPin := true, tCount := 0 })

/-- 42_behavior_controller.md R200: after a beacon has ended an alignment, ticks post nothing and a TIMEOUT posted
before the exit is ignored, whatever state the machine is in by then within the next 4095 exits. -/
def Obligations.NoTimeoutAfterAnEarlyExit : Prop :=
  ∀ (s : State) (i : Instr), s.faultM = 0#4 → s.bState = .aligningWithBeacon →
    i = .beaconEngine ∨ i = .beaconSensor ∨ i = .beaconSynthetic →
    ∃ t, exec i s = .next t ∧ t.bState = .stopped ∧ t.actL = still ∧ t.actR = still ∧
      (∀ n, runOps (List.replicate n .tmrTick) t = .next t) ∧
      (∀ u : State, u.faultM = 0#4 → ∀ n, n < 4095 → u.tEpoch = t.tEpoch + BitVec.ofNat 12 n →
        exec (.timeout s.tEpoch) u = .next u)

/-- 42_behavior_controller.md R192. -/
def Obligations.TmrTickCountsDownAndPosts : Prop :=
  ∀ s : State,
    decodeStimulus s.cfg.linkNoise 0x50000000#32 = .ok .tmrTick ∧
    (s.faultM = 0#4 → s.tActive = false → exec .tmrTick s = .next s) ∧
    (s.faultM = 0#4 → s.tActive = true → 2 ≤ s.tCount → s.tCount < 2 ^ s.cfg.tcw →
      exec .tmrTick s = .next { s with tCount := s.tCount - 1 }) ∧
    (s.faultM = 0#4 → s.tActive = true → s.tCount = 1 → 1 ≤ s.cfg.tcw →
      exec .tmrTick s = .next (posted (entryOf 4 0 s.tEpoch.toNat) { s with tCount := 0, tActive := false })) ∧
    (s.faultM ≠ 0#4 → exec .tmrTick s = .fault .motionHalted)

/-- 42_behavior_controller.md R192: a timer armed with d expires on the d-th tick, once. -/
def Obligations.TimerExpiresOnceOnItsLastTick : Prop :=
  ∀ (s : State) (n : Nat), s.faultM = 0#4 → s.tActive = true → 1 ≤ s.tCount → s.tCount < 2 ^ s.cfg.tcw →
    s.q.length ≠ s.cfg.qdepth →
    (n < s.tCount → runOps (List.replicate n .tmrTick) s = .next { s with tCount := s.tCount - n }) ∧
    (s.tCount ≤ n → runOps (List.replicate n .tmrTick) s = .next
      { s with tCount := 0, tActive := false, q := s.q ++ [entryOf 4 0 s.tEpoch.toNat] })

/-- 42_behavior_controller.md R193 and R194. -/
def Obligations.SensorLevelsPostOnTheirEdge : Prop :=
  ∀ s : State,
    (s.faultM = 0#4 → s.beaconPin = false → exec (.beaconPin true) s = .next
      (posted 0x201000#24 { s with beaconPin := true })) ∧
    (s.faultM = 0#4 → s.beaconPin = true → exec (.beaconPin true) s = .next s) ∧
    (s.faultM = 0#4 → exec (.beaconPin false) s = .next { s with beaconPin := false }) ∧
    (s.faultM = 0#4 → s.tapePin = true → exec (.tapePin false) s = .next
      (posted 0x301000#24 { s with tapePin := false })) ∧
    (s.faultM = 0#4 → s.tapePin = false → exec (.tapePin false) s = .next s) ∧
    (s.faultM = 0#4 → exec (.tapePin true) s = .next { s with tapePin := true }) ∧
    (∀ v, decodeStimulus s.cfg.linkNoise (if v then 0x58000001#32 else 0x58000000#32) = .ok (.beaconPin v) ∧
      decodeStimulus s.cfg.linkNoise (if v then 0x60000001#32 else 0x60000000#32) = .ok (.tapePin v)) ∧
    (s.faultM ≠ 0#4 → ∀ v, exec (.beaconPin v) s = .fault .motionHalted ∧ exec (.tapePin v) s = .fault .motionHalted)

/-! ### Reset and faults -/

/-- 70_reset_and_hazards.md R260: always enabled; either configuration result can be drawn (log 6). -/
def Obligations.ResetMClearsTheMotionChip : Prop :=
  ∀ s : State,
    decodeStimulus s.cfg.linkNoise 0x68000000#32 = .ok .resetM ∧
    (∀ ok rest, s.initOkMIn = ok :: rest → exec .resetM s = .next
      { motionCleared (if ok then 0#4 else 1#4) s with initOkMIn := rest }) ∧
    (s.initOkMIn = [] → ∃ ok : Bool, exec .resetM s = .next
      { motionCleared (if ok then 0#4 else 1#4) s with drawCount := s.drawCount + 1 })

/-- 70_reset_and_hazards.md R261: always enabled; either configuration result can be drawn (log 6). -/
def Obligations.ResetCClearsTheCommandChip : Prop :=
  ∀ s : State,
    decodeStimulus s.cfg.linkNoise 0x70000000#32 = .ok .resetC ∧
    (∀ ok rest, s.initOkCIn = ok :: rest → exec .resetC s = .next
      { commandCleared (if ok then 0#1 else 1#1) s with initOkCIn := rest }) ∧
    (s.initOkCIn = [] → ∃ ok : Bool, exec .resetC s = .next
      { commandCleared (if ok then 0#1 else 1#1) s with drawCount := s.drawCount + 1 })

/-- 70_reset_and_hazards.md R262: both resets, in either order and from any state, give the power-on state. -/
def Obligations.PowerOnIsBothResetsInEitherOrder : Prop :=
  ∀ (s : State) (m c : Bool) (ms cs : List Bool), s.initOkMIn = m :: ms → s.initOkCIn = c :: cs →
    let t := { State.powerOn s.cfg s.beaconPin s.tapePin m c with
      script := s.script, out := s.out, initOkMIn := ms, initOkCIn := cs, haltedByteIn := s.haltedByteIn,
      drawCount := s.drawCount }
    runOps [.resetM, .resetC] s = .next t ∧ runOps [.resetC, .resetM] s = .next t

/-- 60_exceptions.md R229: a halted chip takes no step but its reset; the other chip goes on. That event entries
and link bytes are among the instructions it enables none of is the model's choice (log 1). -/
def Obligations.HaltedChipsTakeNoStepButReset : Prop :=
  ∀ s : State,
    (s.faultM ≠ 0#4 → ∀ i, i ≠ .resetM → i ≠ .resetC → isCmdIn i = false → exec i s = .fault .motionHalted) ∧
    (s.faultC ≠ 0#1 → ∀ k, exec (.cmdIn k) s = .fault .commandHalted) ∧
    (s.faultC = 0#1 → ∀ k, ∃ t, exec (.cmdIn k) s = .next t) ∧
    (∃ t, exec .resetM s = .next t ∧ (t.faultM = 0#4 ∨ t.faultM = 1#4)) ∧
    (∃ t, exec .resetC s = .next t ∧ t.faultM = s.faultM)

/-- 60_exceptions.md R225 to R228: a fault is raised only by its own cause, sets its own bit, leaves the wheels stopped
and says so. -/
def Obligations.FaultsHaveTheirCauses : Prop :=
  ∀ (s t : State) (i : Instr), s.faultM = 0#4 → s.q.length ≤ s.cfg.qdepth → i ≠ .resetM → exec i s = .next t →
    t.faultM = 0#4 ∨
    (t.actL = still ∧ t.actR = still ∧ (∃ o, t.out = o ++ [.actuate still still]) ∧
      ((t.faultM = 2#4 ∧ s.q.length = s.cfg.qdepth ∧ t.q = s.q ∧ canPost i = true) ∨
       (t.faultM = 4#4 ∧ i = .edge ∧ s.capPending = true ∧ t.capVal = s.capVal) ∨
       (t.faultM = 8#4 ∧ i = .dispatch ∧ ∃ e rest, s.q = e :: rest ∧ EntryWord.wellFormed e = false ∧ t.q = rest)))

/-- 10_state.md R21 to R45, R49: every register has exactly its writers, the configuration none, and the output trace
only grows. -/
def Obligations.EveryRegisterHasItsWriters : Prop :=
  ∀ (s t : State) (i : Instr), exec i s = .next t →
    t.cfg = s.cfg ∧ t.script = s.script ∧ (∃ o, t.out = s.out ++ o) ∧
    (t.cnt ≠ s.cnt → i = .cnt ∨ i = .resetM) ∧
    (t.ovfPending ≠ s.ovfPending → i = .cnt ∨ i = .capIsr ∨ i = .ovfIsr ∨ i = .resetM) ∧
    (t.capVal ≠ s.capVal → i = .edge ∨ i = .resetM) ∧
    (t.capPending ≠ s.capPending → i = .edge ∨ i = .capIsr ∨ i = .resetM) ∧
    (t.rc ≠ s.rc → i = .capIsr ∨ i = .ovfIsr ∨ i = .resetM) ∧
    (t.prevTs ≠ s.prevTs ∨ t.havePrev ≠ s.havePrev → i = .capIsr ∨ i = .resetM) ∧
    (t.smooth ≠ s.smooth ∨ t.haveSmooth ≠ s.haveSmooth → i = .capIsr ∨ i = .resetM) ∧
    (t.rState ≠ s.rState → isCmdIn i = true ∨ isPoll i = true ∨ i = .resetC) ∧
    (t.rHeld ≠ s.rHeld → isCmdIn i = true ∨ i = .resetC) ∧
    (t.faultC ≠ s.faultC → i = .resetC) ∧
    (t.pLatch ≠ s.pLatch ∨ t.pLast ≠ s.pLast → isPoll i = true ∨ isLinkByte i = true ∨ i = .resetM) ∧
    (t.bState ≠ s.bState ∨ t.tEpoch ≠ s.tEpoch → i = .dispatch ∨ isEntry i = true ∨ i = .resetM) ∧
    (t.tActive ≠ s.tActive ∨ t.tCount ≠ s.tCount →
      i = .dispatch ∨ isEntry i = true ∨ i = .tmrTick ∨ i = .resetM) ∧
    (t.beaconPin ≠ s.beaconPin → i = .beaconPin t.beaconPin) ∧
    (t.tapePin ≠ s.tapePin → i = .tapePin t.tapePin) ∧
    (t.q ≠ s.q → canPost i = true ∨ i = .dispatch ∨ i = .resetM) ∧
    (t.actL ≠ s.actL ∨ t.actR ≠ s.actR ∨ t.faultM ≠ s.faultM →
      canPost i = true ∨ i = .dispatch ∨ i = .edge ∨ i = .resetM) ∧
    (t.out ≠ s.out → canPost i = true ∨ i = .dispatch ∨ i = .edge ∨ i = .diag)

/-- 60_exceptions.md R239: nothing of the motion chip reaches the command chip. Two machines whose command chips (and
their draws) agree still agree there after the same instruction, where it completes at both, whatever their motion chips
hold. What a completing POLL leaves in the command chip is PollReceivesThePreparedByte. -/
def Obligations.MotionChipDoesNotReachTheCommandChip : Prop :=
  ∀ (s s' t t' : State) (i : Instr),
    s.cfg = s'.cfg → s.rState = s'.rState → s.rHeld = s'.rHeld → s.faultC = s'.faultC →
    s.initOkCIn = s'.initOkCIn → s.drawCount = s'.drawCount →
    exec i s = .next t → exec i s' = .next t' →
    t.rState = t'.rState ∧ t.rHeld = t'.rHeld ∧ t.faultC = t'.faultC

/-! ### Invariants -/

/-- Every step keeps the invariant, from every state that has it. -/
def Obligations.EveryStepKeepsTheInvariant : Prop :=
  ∀ s t : State, MachineInv s → step s = .next t → MachineInv t

/-- The invariant holds after power-on, whatever the draws and the legal configuration, and at State.reset. -/
def Obligations.PowerOnHasTheInvariant : Prop :=
  (∀ (c : Config) (beacon tape okM okC : Bool), c.Legal → MachineInv (State.powerOn c beacon tape okM okC)) ∧
  MachineInv State.reset

/-- 42_behavior_controller.md R197: every step keeps the epochs and the TIMEOUT tags true to the true exits. -/
def Obligations.EveryStepKeepsTheExitsTrue : Prop :=
  ∀ (s t : State) (w : StimulusWord) (rest : List StimulusWord) (i : Instr) (g : Exits),
    ExitsTrue s g → s.script = w :: rest → decodeStimulus s.cfg.linkNoise w = .ok i → step s = .next t →
    ExitsTrue t (g.after s i t)

/-- 42_behavior_controller.md R197: a dispatched TIMEOUT acts exactly when no state exit happened since it was posted;
the 12-bit tag never aliases. -/
def Obligations.TimeoutsActExactlyWithoutAnExitSince : Prop :=
  ∀ (s : State) (g : Exits) (e : EntryWord) (rest : List EntryWord) (tag : Epoch) (n : Nat) (ns : List Nat),
    ExitsTrue s g → s.faultM = 0#4 → s.q = e :: rest → decodeEntry e = .ok (.timeout tag) → g.posted = n :: ns →
    (n = g.count → exec .dispatch s = .next (ended { s with q := rest })) ∧
    (n ≠ g.count → exec .dispatch s = .next { s with q := rest })

/-- Both histories start true at power-on, with nothing counted. -/
def Obligations.HistoriesStartTrueAtPowerOn : Prop :=
  ∀ (c : Config) (beacon tape okM okC : Bool), c.Legal →
    CountsTrue (State.powerOn c beacon tape okM okC) { now := 0, edge := 0, prev := 0 } ∧
    ExitsTrue (State.powerOn c beacon tape okM okC) { count := 0, posted := [] }
end

