-- ==== Sys2Proof/Laws/Decode.lean ====
section
/-! SUPPORT. The fields of an assembled word are the fields it was assembled from, and a word is assembled from its
fields (30_encoding.md R88, R92). -/

namespace Sys2Proof

@[simp] theorem stimulusWord_toNat (op : BitVec 5) (arg : Byte) :
    (stimulusWord op arg).toNat = op.toNat * 2 ^ 27 + arg.toNat := by
  unfold stimulusWord
  simp only [BitVec.append_def, BitVec.toNat_or, BitVec.toNat_shiftLeftZeroExtend, BitVec.toNat_setWidth',
    BitVec.toNat_ofNat]
  have := arg.isLt
  rw [show op.toNat <<< 19 ||| 0 % 2 ^ 19 = op.toNat <<< 19 by simp, ← Nat.shiftLeft_add,
    ← Nat.shiftLeft_add_eq_or_of_lt (by omega), Nat.shiftLeft_eq]

@[simp] theorem entryWord_toNat (type : BitVec 4) (arg : Byte) (tag : Epoch) :
    (entryWord type arg tag).toNat = type.toNat * 2 ^ 20 + arg.toNat * 2 ^ 12 + tag.toNat := by
  unfold entryWord
  simp only [BitVec.append_def, BitVec.toNat_or, BitVec.toNat_shiftLeftZeroExtend, BitVec.toNat_setWidth']
  have := arg.isLt
  have := tag.isLt
  rw [← Nat.shiftLeft_add_eq_or_of_lt (by omega), ← Nat.shiftLeft_add_eq_or_of_lt (by omega), Nat.shiftLeft_eq,
    Nat.shiftLeft_eq]
  omega

theorem stimOp_toNat (w : StimulusWord) : (stimOp w).toNat = w.toNat / 2 ^ 27 := by
  have := w.isLt
  simp only [stimOp, BitVec.extractLsb'_toNat, Nat.shiftRight_eq_div_pow]
  omega

theorem stimZero_toNat (w : StimulusWord) : (stimZero w).toNat = w.toNat / 2 ^ 8 % 2 ^ 19 := by
  simp only [stimZero, BitVec.extractLsb'_toNat, Nat.shiftRight_eq_div_pow]

theorem stimArg_toNat (w : StimulusWord) : (stimArg w).toNat = w.toNat % 2 ^ 8 := by
  simp only [stimArg, BitVec.extractLsb'_toNat, Nat.shiftRight_eq_div_pow, Nat.pow_zero, Nat.div_one]

theorem entryType_toNat (e : EntryWord) : (entryType e).toNat = e.toNat / 2 ^ 20 := by
  have := e.isLt
  simp only [entryType, BitVec.extractLsb'_toNat, Nat.shiftRight_eq_div_pow]
  omega

theorem entryArg_toNat (e : EntryWord) : (entryArg e).toNat = e.toNat / 2 ^ 12 % 2 ^ 8 := by
  simp only [entryArg, BitVec.extractLsb'_toNat, Nat.shiftRight_eq_div_pow]

theorem entryTag_toNat (e : EntryWord) : (entryTag e).toNat = e.toNat % 2 ^ 12 := by
  simp only [entryTag, BitVec.extractLsb'_toNat, Nat.shiftRight_eq_div_pow, Nat.pow_zero, Nat.div_one]

@[simp] theorem stimOp_stimulusWord (op : BitVec 5) (arg : Byte) : stimOp (stimulusWord op arg) = op := by
  have := arg.isLt
  apply BitVec.eq_of_toNat_eq
  rw [stimOp_toNat, stimulusWord_toNat]
  omega

@[simp] theorem stimZero_stimulusWord (op : BitVec 5) (arg : Byte) : stimZero (stimulusWord op arg) = 0#19 := by
  have := arg.isLt
  apply BitVec.eq_of_toNat_eq
  rw [stimZero_toNat, stimulusWord_toNat]
  simp
  omega

@[simp] theorem stimArg_stimulusWord (op : BitVec 5) (arg : Byte) : stimArg (stimulusWord op arg) = arg := by
  have := arg.isLt
  apply BitVec.eq_of_toNat_eq
  rw [stimArg_toNat, stimulusWord_toNat]
  omega

@[simp] theorem entryType_entryWord (type : BitVec 4) (arg : Byte) (tag : Epoch) :
    entryType (entryWord type arg tag) = type := by
  have := arg.isLt
  have := tag.isLt
  apply BitVec.eq_of_toNat_eq
  rw [entryType_toNat, entryWord_toNat]
  omega

@[simp] theorem entryArg_entryWord (type : BitVec 4) (arg : Byte) (tag : Epoch) :
    entryArg (entryWord type arg tag) = arg := by
  have := arg.isLt
  have := tag.isLt
  apply BitVec.eq_of_toNat_eq
  rw [entryArg_toNat, entryWord_toNat]
  omega

@[simp] theorem entryTag_entryWord (type : BitVec 4) (arg : Byte) (tag : Epoch) :
    entryTag (entryWord type arg tag) = tag := by
  have := arg.isLt
  have := tag.isLt
  apply BitVec.eq_of_toNat_eq
  rw [entryTag_toNat, entryWord_toNat]
  omega

/-- A stimulus word whose bits 26..8 are 0 is its op and its arg. -/
theorem stimulusWord_of_fields (w : StimulusWord) (h : stimZero w = 0#19) : stimulusWord (stimOp w) (stimArg w) = w := by
  have h0 := congrArg BitVec.toNat h
  have := w.isLt
  apply BitVec.eq_of_toNat_eq
  rw [stimulusWord_toNat, stimOp_toNat, stimArg_toNat]
  rw [stimZero_toNat] at h0
  simp at h0
  omega

/-- An entry's word is its type, its arg and its tag. -/
theorem entryWord_of_fields (e : EntryWord) : entryWord (entryType e) (entryArg e) (entryTag e) = e := by
  have := e.isLt
  apply BitVec.eq_of_toNat_eq
  rw [entryWord_toNat, entryType_toNat, entryArg_toNat, entryTag_toNat]
  omega

/-- `find?` over the kinds answers a kind with the byte asked for. -/
theorem classify_cmd_byte (t : CodeTable) (b : Byte) (k : CmdKind) (h : classify t b = .cmd k) : t.byte k = b := by
  unfold classify at h
  split at h
  · cases h
  · split at h
    · rename_i k' hk
      have := List.find?_some hk
      simp only [LinkClass.cmd.injEq] at h
      subst h
      simpa using this
    · cases h

theorem classify_flag_iff (t : CodeTable) (b : Byte) : classify t b = .flag ↔ b = Config.flagByte := by
  unfold classify
  split
  · simp_all
  · split <;> simp_all

end Sys2Proof
end

