-- ==== Sys2Proof/Laws/State.lean ====
section
/-! SUPPORT. One lemma per field per named update of the state, so that no proof unfolds a record update. -/

namespace Sys2Proof.Machine

section
variable (s : State)

/-! ### `emit` -/

@[simp] theorem emit_cfg (o : Output) : (emit o s).cfg = s.cfg := rfl
@[simp] theorem emit_cnt (o : Output) : (emit o s).cnt = s.cnt := rfl
@[simp] theorem emit_ovfPending (o : Output) : (emit o s).ovfPending = s.ovfPending := rfl
@[simp] theorem emit_capVal (o : Output) : (emit o s).capVal = s.capVal := rfl
@[simp] theorem emit_capPending (o : Output) : (emit o s).capPending = s.capPending := rfl
@[simp] theorem emit_rc (o : Output) : (emit o s).rc = s.rc := rfl
@[simp] theorem emit_prevTs (o : Output) : (emit o s).prevTs = s.prevTs := rfl
@[simp] theorem emit_havePrev (o : Output) : (emit o s).havePrev = s.havePrev := rfl
@[simp] theorem emit_smooth (o : Output) : (emit o s).smooth = s.smooth := rfl
@[simp] theorem emit_haveSmooth (o : Output) : (emit o s).haveSmooth = s.haveSmooth := rfl
@[simp] theorem emit_rState (o : Output) : (emit o s).rState = s.rState := rfl
@[simp] theorem emit_rHeld (o : Output) : (emit o s).rHeld = s.rHeld := rfl
@[simp] theorem emit_faultC (o : Output) : (emit o s).faultC = s.faultC := rfl
@[simp] theorem emit_pLatch (o : Output) : (emit o s).pLatch = s.pLatch := rfl
@[simp] theorem emit_pLast (o : Output) : (emit o s).pLast = s.pLast := rfl
@[simp] theorem emit_bState (o : Output) : (emit o s).bState = s.bState := rfl
@[simp] theorem emit_q (o : Output) : (emit o s).q = s.q := rfl
@[simp] theorem emit_tActive (o : Output) : (emit o s).tActive = s.tActive := rfl
@[simp] theorem emit_tCount (o : Output) : (emit o s).tCount = s.tCount := rfl
@[simp] theorem emit_tEpoch (o : Output) : (emit o s).tEpoch = s.tEpoch := rfl
@[simp] theorem emit_actL (o : Output) : (emit o s).actL = s.actL := rfl
@[simp] theorem emit_actR (o : Output) : (emit o s).actR = s.actR := rfl
@[simp] theorem emit_faultM (o : Output) : (emit o s).faultM = s.faultM := rfl
@[simp] theorem emit_beaconPin (o : Output) : (emit o s).beaconPin = s.beaconPin := rfl
@[simp] theorem emit_tapePin (o : Output) : (emit o s).tapePin = s.tapePin := rfl
@[simp] theorem emit_script (o : Output) : (emit o s).script = s.script := rfl
@[simp] theorem emit_out (o : Output) : (emit o s).out = s.out ++ [o] := rfl
@[simp] theorem emit_initOkMIn (o : Output) : (emit o s).initOkMIn = s.initOkMIn := rfl
@[simp] theorem emit_initOkCIn (o : Output) : (emit o s).initOkCIn = s.initOkCIn := rfl
@[simp] theorem emit_haltedByteIn (o : Output) : (emit o s).haltedByteIn = s.haltedByteIn := rfl
@[simp] theorem emit_drawCount (o : Output) : (emit o s).drawCount = s.drawCount := rfl

/-! ### `raiseFault` -/

@[simp] theorem raiseFault_cfg (f : FaultCode) : (raiseFault f s).cfg = s.cfg := rfl
@[simp] theorem raiseFault_cnt (f : FaultCode) : (raiseFault f s).cnt = s.cnt := rfl
@[simp] theorem raiseFault_ovfPending (f : FaultCode) : (raiseFault f s).ovfPending = s.ovfPending := rfl
@[simp] theorem raiseFault_capVal (f : FaultCode) : (raiseFault f s).capVal = s.capVal := rfl
@[simp] theorem raiseFault_capPending (f : FaultCode) : (raiseFault f s).capPending = s.capPending := rfl
@[simp] theorem raiseFault_rc (f : FaultCode) : (raiseFault f s).rc = s.rc := rfl
@[simp] theorem raiseFault_prevTs (f : FaultCode) : (raiseFault f s).prevTs = s.prevTs := rfl
@[simp] theorem raiseFault_havePrev (f : FaultCode) : (raiseFault f s).havePrev = s.havePrev := rfl
@[simp] theorem raiseFault_smooth (f : FaultCode) : (raiseFault f s).smooth = s.smooth := rfl
@[simp] theorem raiseFault_haveSmooth (f : FaultCode) : (raiseFault f s).haveSmooth = s.haveSmooth := rfl
@[simp] theorem raiseFault_rState (f : FaultCode) : (raiseFault f s).rState = s.rState := rfl
@[simp] theorem raiseFault_rHeld (f : FaultCode) : (raiseFault f s).rHeld = s.rHeld := rfl
@[simp] theorem raiseFault_faultC (f : FaultCode) : (raiseFault f s).faultC = s.faultC := rfl
@[simp] theorem raiseFault_pLatch (f : FaultCode) : (raiseFault f s).pLatch = s.pLatch := rfl
@[simp] theorem raiseFault_pLast (f : FaultCode) : (raiseFault f s).pLast = s.pLast := rfl
@[simp] theorem raiseFault_bState (f : FaultCode) : (raiseFault f s).bState = s.bState := rfl
@[simp] theorem raiseFault_q (f : FaultCode) : (raiseFault f s).q = s.q := rfl
@[simp] theorem raiseFault_tActive (f : FaultCode) : (raiseFault f s).tActive = s.tActive := rfl
@[simp] theorem raiseFault_tCount (f : FaultCode) : (raiseFault f s).tCount = s.tCount := rfl
@[simp] theorem raiseFault_tEpoch (f : FaultCode) : (raiseFault f s).tEpoch = s.tEpoch := rfl
@[simp] theorem raiseFault_actL (f : FaultCode) : (raiseFault f s).actL = Wheel.stopped := rfl
@[simp] theorem raiseFault_actR (f : FaultCode) : (raiseFault f s).actR = Wheel.stopped := rfl
@[simp] theorem raiseFault_faultM (f : FaultCode) : (raiseFault f s).faultM = setFault f s.faultM := rfl
@[simp] theorem raiseFault_beaconPin (f : FaultCode) : (raiseFault f s).beaconPin = s.beaconPin := rfl
@[simp] theorem raiseFault_tapePin (f : FaultCode) : (raiseFault f s).tapePin = s.tapePin := rfl
@[simp] theorem raiseFault_script (f : FaultCode) : (raiseFault f s).script = s.script := rfl
@[simp] theorem raiseFault_out (f : FaultCode) : (raiseFault f s).out = s.out ++ [.actuate Wheel.stopped Wheel.stopped] := rfl
@[simp] theorem raiseFault_initOkMIn (f : FaultCode) : (raiseFault f s).initOkMIn = s.initOkMIn := rfl
@[simp] theorem raiseFault_initOkCIn (f : FaultCode) : (raiseFault f s).initOkCIn = s.initOkCIn := rfl
@[simp] theorem raiseFault_haltedByteIn (f : FaultCode) : (raiseFault f s).haltedByteIn = s.haltedByteIn := rfl
@[simp] theorem raiseFault_drawCount (f : FaultCode) : (raiseFault f s).drawCount = s.drawCount := rfl

/-! ### `exitState` -/

@[simp] theorem exitState_cfg : (exitState s).cfg = s.cfg := rfl
@[simp] theorem exitState_cnt : (exitState s).cnt = s.cnt := rfl
@[simp] theorem exitState_ovfPending : (exitState s).ovfPending = s.ovfPending := rfl
@[simp] theorem exitState_capVal : (exitState s).capVal = s.capVal := rfl
@[simp] theorem exitState_capPending : (exitState s).capPending = s.capPending := rfl
@[simp] theorem exitState_rc : (exitState s).rc = s.rc := rfl
@[simp] theorem exitState_prevTs : (exitState s).prevTs = s.prevTs := rfl
@[simp] theorem exitState_havePrev : (exitState s).havePrev = s.havePrev := rfl
@[simp] theorem exitState_smooth : (exitState s).smooth = s.smooth := rfl
@[simp] theorem exitState_haveSmooth : (exitState s).haveSmooth = s.haveSmooth := rfl
@[simp] theorem exitState_rState : (exitState s).rState = s.rState := rfl
@[simp] theorem exitState_rHeld : (exitState s).rHeld = s.rHeld := rfl
@[simp] theorem exitState_faultC : (exitState s).faultC = s.faultC := rfl
@[simp] theorem exitState_pLatch : (exitState s).pLatch = s.pLatch := rfl
@[simp] theorem exitState_pLast : (exitState s).pLast = s.pLast := rfl
@[simp] theorem exitState_bState : (exitState s).bState = s.bState := rfl
@[simp] theorem exitState_q : (exitState s).q = s.q := rfl
@[simp] theorem exitState_tActive : (exitState s).tActive = false := rfl
@[simp] theorem exitState_tCount : (exitState s).tCount = s.tCount := rfl
@[simp] theorem exitState_tEpoch : (exitState s).tEpoch = s.tEpoch + 1#12 := rfl
@[simp] theorem exitState_actL : (exitState s).actL = s.actL := rfl
@[simp] theorem exitState_actR : (exitState s).actR = s.actR := rfl
@[simp] theorem exitState_faultM : (exitState s).faultM = s.faultM := rfl
@[simp] theorem exitState_beaconPin : (exitState s).beaconPin = s.beaconPin := rfl
@[simp] theorem exitState_tapePin : (exitState s).tapePin = s.tapePin := rfl
@[simp] theorem exitState_script : (exitState s).script = s.script := rfl
@[simp] theorem exitState_out : (exitState s).out = s.out := rfl
@[simp] theorem exitState_initOkMIn : (exitState s).initOkMIn = s.initOkMIn := rfl
@[simp] theorem exitState_initOkCIn : (exitState s).initOkCIn = s.initOkCIn := rfl
@[simp] theorem exitState_haltedByteIn : (exitState s).haltedByteIn = s.haltedByteIn := rfl
@[simp] theorem exitState_drawCount : (exitState s).drawCount = s.drawCount := rfl

/-! ### `armTimer` -/

@[simp] theorem armTimer_cfg (d : Nat) : (armTimer d s).cfg = s.cfg := rfl
@[simp] theorem armTimer_cnt (d : Nat) : (armTimer d s).cnt = s.cnt := rfl
@[simp] theorem armTimer_ovfPending (d : Nat) : (armTimer d s).ovfPending = s.ovfPending := rfl
@[simp] theorem armTimer_capVal (d : Nat) : (armTimer d s).capVal = s.capVal := rfl
@[simp] theorem armTimer_capPending (d : Nat) : (armTimer d s).capPending = s.capPending := rfl
@[simp] theorem armTimer_rc (d : Nat) : (armTimer d s).rc = s.rc := rfl
@[simp] theorem armTimer_prevTs (d : Nat) : (armTimer d s).prevTs = s.prevTs := rfl
@[simp] theorem armTimer_havePrev (d : Nat) : (armTimer d s).havePrev = s.havePrev := rfl
@[simp] theorem armTimer_smooth (d : Nat) : (armTimer d s).smooth = s.smooth := rfl
@[simp] theorem armTimer_haveSmooth (d : Nat) : (armTimer d s).haveSmooth = s.haveSmooth := rfl
@[simp] theorem armTimer_rState (d : Nat) : (armTimer d s).rState = s.rState := rfl
@[simp] theorem armTimer_rHeld (d : Nat) : (armTimer d s).rHeld = s.rHeld := rfl
@[simp] theorem armTimer_faultC (d : Nat) : (armTimer d s).faultC = s.faultC := rfl
@[simp] theorem armTimer_pLatch (d : Nat) : (armTimer d s).pLatch = s.pLatch := rfl
@[simp] theorem armTimer_pLast (d : Nat) : (armTimer d s).pLast = s.pLast := rfl
@[simp] theorem armTimer_bState (d : Nat) : (armTimer d s).bState = s.bState := rfl
@[simp] theorem armTimer_q (d : Nat) : (armTimer d s).q = s.q := rfl
@[simp] theorem armTimer_tActive (d : Nat) : (armTimer d s).tActive = true := rfl
@[simp] theorem armTimer_tCount (d : Nat) : (armTimer d s).tCount = d := rfl
@[simp] theorem armTimer_tEpoch (d : Nat) : (armTimer d s).tEpoch = s.tEpoch := rfl
@[simp] theorem armTimer_actL (d : Nat) : (armTimer d s).actL = s.actL := rfl
@[simp] theorem armTimer_actR (d : Nat) : (armTimer d s).actR = s.actR := rfl
@[simp] theorem armTimer_faultM (d : Nat) : (armTimer d s).faultM = s.faultM := rfl
@[simp] theorem armTimer_beaconPin (d : Nat) : (armTimer d s).beaconPin = s.beaconPin := rfl
@[simp] theorem armTimer_tapePin (d : Nat) : (armTimer d s).tapePin = s.tapePin := rfl
@[simp] theorem armTimer_script (d : Nat) : (armTimer d s).script = s.script := rfl
@[simp] theorem armTimer_out (d : Nat) : (armTimer d s).out = s.out := rfl
@[simp] theorem armTimer_initOkMIn (d : Nat) : (armTimer d s).initOkMIn = s.initOkMIn := rfl
@[simp] theorem armTimer_initOkCIn (d : Nat) : (armTimer d s).initOkCIn = s.initOkCIn := rfl
@[simp] theorem armTimer_haltedByteIn (d : Nat) : (armTimer d s).haltedByteIn = s.haltedByteIn := rfl
@[simp] theorem armTimer_drawCount (d : Nat) : (armTimer d s).drawCount = s.drawCount := rfl

/-! ### `actuate` -/

@[simp] theorem actuate_cfg (a : Action) : (actuate a s).cfg = s.cfg := rfl
@[simp] theorem actuate_cnt (a : Action) : (actuate a s).cnt = s.cnt := rfl
@[simp] theorem actuate_ovfPending (a : Action) : (actuate a s).ovfPending = s.ovfPending := rfl
@[simp] theorem actuate_capVal (a : Action) : (actuate a s).capVal = s.capVal := rfl
@[simp] theorem actuate_capPending (a : Action) : (actuate a s).capPending = s.capPending := rfl
@[simp] theorem actuate_rc (a : Action) : (actuate a s).rc = s.rc := rfl
@[simp] theorem actuate_prevTs (a : Action) : (actuate a s).prevTs = s.prevTs := rfl
@[simp] theorem actuate_havePrev (a : Action) : (actuate a s).havePrev = s.havePrev := rfl
@[simp] theorem actuate_smooth (a : Action) : (actuate a s).smooth = s.smooth := rfl
@[simp] theorem actuate_haveSmooth (a : Action) : (actuate a s).haveSmooth = s.haveSmooth := rfl
@[simp] theorem actuate_rState (a : Action) : (actuate a s).rState = s.rState := rfl
@[simp] theorem actuate_rHeld (a : Action) : (actuate a s).rHeld = s.rHeld := rfl
@[simp] theorem actuate_faultC (a : Action) : (actuate a s).faultC = s.faultC := rfl
@[simp] theorem actuate_pLatch (a : Action) : (actuate a s).pLatch = s.pLatch := rfl
@[simp] theorem actuate_pLast (a : Action) : (actuate a s).pLast = s.pLast := rfl
@[simp] theorem actuate_bState (a : Action) : (actuate a s).bState = s.bState := rfl
@[simp] theorem actuate_q (a : Action) : (actuate a s).q = s.q := rfl
@[simp] theorem actuate_tActive (a : Action) : (actuate a s).tActive = s.tActive := rfl
@[simp] theorem actuate_tCount (a : Action) : (actuate a s).tCount = s.tCount := rfl
@[simp] theorem actuate_tEpoch (a : Action) : (actuate a s).tEpoch = s.tEpoch := rfl
@[simp] theorem actuate_actL (a : Action) : (actuate a s).actL = (wheels s.cfg a).1 := rfl
@[simp] theorem actuate_actR (a : Action) : (actuate a s).actR = (wheels s.cfg a).2 := rfl
@[simp] theorem actuate_faultM (a : Action) : (actuate a s).faultM = s.faultM := rfl
@[simp] theorem actuate_beaconPin (a : Action) : (actuate a s).beaconPin = s.beaconPin := rfl
@[simp] theorem actuate_tapePin (a : Action) : (actuate a s).tapePin = s.tapePin := rfl
@[simp] theorem actuate_script (a : Action) : (actuate a s).script = s.script := rfl
@[simp] theorem actuate_out (a : Action) : (actuate a s).out = s.out ++ [.actuate (wheels s.cfg a).1 (wheels s.cfg a).2] := rfl
@[simp] theorem actuate_initOkMIn (a : Action) : (actuate a s).initOkMIn = s.initOkMIn := rfl
@[simp] theorem actuate_initOkCIn (a : Action) : (actuate a s).initOkCIn = s.initOkCIn := rfl
@[simp] theorem actuate_haltedByteIn (a : Action) : (actuate a s).haltedByteIn = s.haltedByteIn := rfl
@[simp] theorem actuate_drawCount (a : Action) : (actuate a s).drawCount = s.drawCount := rfl

/-! ### `setLatch` -/

@[simp] theorem setLatch_cfg (v : Bool) : (setLatch v s).cfg = s.cfg := rfl
@[simp] theorem setLatch_cnt (v : Bool) : (setLatch v s).cnt = s.cnt := rfl
@[simp] theorem setLatch_ovfPending (v : Bool) : (setLatch v s).ovfPending = s.ovfPending := rfl
@[simp] theorem setLatch_capVal (v : Bool) : (setLatch v s).capVal = s.capVal := rfl
@[simp] theorem setLatch_capPending (v : Bool) : (setLatch v s).capPending = s.capPending := rfl
@[simp] theorem setLatch_rc (v : Bool) : (setLatch v s).rc = s.rc := rfl
@[simp] theorem setLatch_prevTs (v : Bool) : (setLatch v s).prevTs = s.prevTs := rfl
@[simp] theorem setLatch_havePrev (v : Bool) : (setLatch v s).havePrev = s.havePrev := rfl
@[simp] theorem setLatch_smooth (v : Bool) : (setLatch v s).smooth = s.smooth := rfl
@[simp] theorem setLatch_haveSmooth (v : Bool) : (setLatch v s).haveSmooth = s.haveSmooth := rfl
@[simp] theorem setLatch_rState (v : Bool) : (setLatch v s).rState = s.rState := rfl
@[simp] theorem setLatch_rHeld (v : Bool) : (setLatch v s).rHeld = s.rHeld := rfl
@[simp] theorem setLatch_faultC (v : Bool) : (setLatch v s).faultC = s.faultC := rfl
@[simp] theorem setLatch_pLatch (v : Bool) : (setLatch v s).pLatch = v := rfl
@[simp] theorem setLatch_pLast (v : Bool) : (setLatch v s).pLast = s.pLast := rfl
@[simp] theorem setLatch_bState (v : Bool) : (setLatch v s).bState = s.bState := rfl
@[simp] theorem setLatch_q (v : Bool) : (setLatch v s).q = s.q := rfl
@[simp] theorem setLatch_tActive (v : Bool) : (setLatch v s).tActive = s.tActive := rfl
@[simp] theorem setLatch_tCount (v : Bool) : (setLatch v s).tCount = s.tCount := rfl
@[simp] theorem setLatch_tEpoch (v : Bool) : (setLatch v s).tEpoch = s.tEpoch := rfl
@[simp] theorem setLatch_actL (v : Bool) : (setLatch v s).actL = s.actL := rfl
@[simp] theorem setLatch_actR (v : Bool) : (setLatch v s).actR = s.actR := rfl
@[simp] theorem setLatch_faultM (v : Bool) : (setLatch v s).faultM = s.faultM := rfl
@[simp] theorem setLatch_beaconPin (v : Bool) : (setLatch v s).beaconPin = s.beaconPin := rfl
@[simp] theorem setLatch_tapePin (v : Bool) : (setLatch v s).tapePin = s.tapePin := rfl
@[simp] theorem setLatch_script (v : Bool) : (setLatch v s).script = s.script := rfl
@[simp] theorem setLatch_out (v : Bool) : (setLatch v s).out = s.out := rfl
@[simp] theorem setLatch_initOkMIn (v : Bool) : (setLatch v s).initOkMIn = s.initOkMIn := rfl
@[simp] theorem setLatch_initOkCIn (v : Bool) : (setLatch v s).initOkCIn = s.initOkCIn := rfl
@[simp] theorem setLatch_haltedByteIn (v : Bool) : (setLatch v s).haltedByteIn = s.haltedByteIn := rfl
@[simp] theorem setLatch_drawCount (v : Bool) : (setLatch v s).drawCount = s.drawCount := rfl

/-! ### `setLast` -/

@[simp] theorem setLast_cfg (b : Byte) : (setLast b s).cfg = s.cfg := rfl
@[simp] theorem setLast_cnt (b : Byte) : (setLast b s).cnt = s.cnt := rfl
@[simp] theorem setLast_ovfPending (b : Byte) : (setLast b s).ovfPending = s.ovfPending := rfl
@[simp] theorem setLast_capVal (b : Byte) : (setLast b s).capVal = s.capVal := rfl
@[simp] theorem setLast_capPending (b : Byte) : (setLast b s).capPending = s.capPending := rfl
@[simp] theorem setLast_rc (b : Byte) : (setLast b s).rc = s.rc := rfl
@[simp] theorem setLast_prevTs (b : Byte) : (setLast b s).prevTs = s.prevTs := rfl
@[simp] theorem setLast_havePrev (b : Byte) : (setLast b s).havePrev = s.havePrev := rfl
@[simp] theorem setLast_smooth (b : Byte) : (setLast b s).smooth = s.smooth := rfl
@[simp] theorem setLast_haveSmooth (b : Byte) : (setLast b s).haveSmooth = s.haveSmooth := rfl
@[simp] theorem setLast_rState (b : Byte) : (setLast b s).rState = s.rState := rfl
@[simp] theorem setLast_rHeld (b : Byte) : (setLast b s).rHeld = s.rHeld := rfl
@[simp] theorem setLast_faultC (b : Byte) : (setLast b s).faultC = s.faultC := rfl
@[simp] theorem setLast_pLatch (b : Byte) : (setLast b s).pLatch = s.pLatch := rfl
@[simp] theorem setLast_pLast (b : Byte) : (setLast b s).pLast = b := rfl
@[simp] theorem setLast_bState (b : Byte) : (setLast b s).bState = s.bState := rfl
@[simp] theorem setLast_q (b : Byte) : (setLast b s).q = s.q := rfl
@[simp] theorem setLast_tActive (b : Byte) : (setLast b s).tActive = s.tActive := rfl
@[simp] theorem setLast_tCount (b : Byte) : (setLast b s).tCount = s.tCount := rfl
@[simp] theorem setLast_tEpoch (b : Byte) : (setLast b s).tEpoch = s.tEpoch := rfl
@[simp] theorem setLast_actL (b : Byte) : (setLast b s).actL = s.actL := rfl
@[simp] theorem setLast_actR (b : Byte) : (setLast b s).actR = s.actR := rfl
@[simp] theorem setLast_faultM (b : Byte) : (setLast b s).faultM = s.faultM := rfl
@[simp] theorem setLast_beaconPin (b : Byte) : (setLast b s).beaconPin = s.beaconPin := rfl
@[simp] theorem setLast_tapePin (b : Byte) : (setLast b s).tapePin = s.tapePin := rfl
@[simp] theorem setLast_script (b : Byte) : (setLast b s).script = s.script := rfl
@[simp] theorem setLast_out (b : Byte) : (setLast b s).out = s.out := rfl
@[simp] theorem setLast_initOkMIn (b : Byte) : (setLast b s).initOkMIn = s.initOkMIn := rfl
@[simp] theorem setLast_initOkCIn (b : Byte) : (setLast b s).initOkCIn = s.initOkCIn := rfl
@[simp] theorem setLast_haltedByteIn (b : Byte) : (setLast b s).haltedByteIn = s.haltedByteIn := rfl
@[simp] theorem setLast_drawCount (b : Byte) : (setLast b s).drawCount = s.drawCount := rfl

/-! ### `recordTimestamp` -/

@[simp] theorem recordTimestamp_cfg (ts : Ticks) : (recordTimestamp ts s).cfg = s.cfg := rfl
@[simp] theorem recordTimestamp_cnt (ts : Ticks) : (recordTimestamp ts s).cnt = s.cnt := rfl
@[simp] theorem recordTimestamp_ovfPending (ts : Ticks) : (recordTimestamp ts s).ovfPending = s.ovfPending := rfl
@[simp] theorem recordTimestamp_capVal (ts : Ticks) : (recordTimestamp ts s).capVal = s.capVal := rfl
@[simp] theorem recordTimestamp_capPending (ts : Ticks) : (recordTimestamp ts s).capPending = s.capPending := rfl
@[simp] theorem recordTimestamp_rc (ts : Ticks) : (recordTimestamp ts s).rc = s.rc := rfl
@[simp] theorem recordTimestamp_prevTs (ts : Ticks) : (recordTimestamp ts s).prevTs = ts := rfl
@[simp] theorem recordTimestamp_havePrev (ts : Ticks) : (recordTimestamp ts s).havePrev = true := rfl
@[simp] theorem recordTimestamp_smooth (ts : Ticks) : (recordTimestamp ts s).smooth = s.smooth := rfl
@[simp] theorem recordTimestamp_haveSmooth (ts : Ticks) : (recordTimestamp ts s).haveSmooth = s.haveSmooth := rfl
@[simp] theorem recordTimestamp_rState (ts : Ticks) : (recordTimestamp ts s).rState = s.rState := rfl
@[simp] theorem recordTimestamp_rHeld (ts : Ticks) : (recordTimestamp ts s).rHeld = s.rHeld := rfl
@[simp] theorem recordTimestamp_faultC (ts : Ticks) : (recordTimestamp ts s).faultC = s.faultC := rfl
@[simp] theorem recordTimestamp_pLatch (ts : Ticks) : (recordTimestamp ts s).pLatch = s.pLatch := rfl
@[simp] theorem recordTimestamp_pLast (ts : Ticks) : (recordTimestamp ts s).pLast = s.pLast := rfl
@[simp] theorem recordTimestamp_bState (ts : Ticks) : (recordTimestamp ts s).bState = s.bState := rfl
@[simp] theorem recordTimestamp_q (ts : Ticks) : (recordTimestamp ts s).q = s.q := rfl
@[simp] theorem recordTimestamp_tActive (ts : Ticks) : (recordTimestamp ts s).tActive = s.tActive := rfl
@[simp] theorem recordTimestamp_tCount (ts : Ticks) : (recordTimestamp ts s).tCount = s.tCount := rfl
@[simp] theorem recordTimestamp_tEpoch (ts : Ticks) : (recordTimestamp ts s).tEpoch = s.tEpoch := rfl
@[simp] theorem recordTimestamp_actL (ts : Ticks) : (recordTimestamp ts s).actL = s.actL := rfl
@[simp] theorem recordTimestamp_actR (ts : Ticks) : (recordTimestamp ts s).actR = s.actR := rfl
@[simp] theorem recordTimestamp_faultM (ts : Ticks) : (recordTimestamp ts s).faultM = s.faultM := rfl
@[simp] theorem recordTimestamp_beaconPin (ts : Ticks) : (recordTimestamp ts s).beaconPin = s.beaconPin := rfl
@[simp] theorem recordTimestamp_tapePin (ts : Ticks) : (recordTimestamp ts s).tapePin = s.tapePin := rfl
@[simp] theorem recordTimestamp_script (ts : Ticks) : (recordTimestamp ts s).script = s.script := rfl
@[simp] theorem recordTimestamp_out (ts : Ticks) : (recordTimestamp ts s).out = s.out := rfl
@[simp] theorem recordTimestamp_initOkMIn (ts : Ticks) : (recordTimestamp ts s).initOkMIn = s.initOkMIn := rfl
@[simp] theorem recordTimestamp_initOkCIn (ts : Ticks) : (recordTimestamp ts s).initOkCIn = s.initOkCIn := rfl
@[simp] theorem recordTimestamp_haltedByteIn (ts : Ticks) : (recordTimestamp ts s).haltedByteIn = s.haltedByteIn := rfl
@[simp] theorem recordTimestamp_drawCount (ts : Ticks) : (recordTimestamp ts s).drawCount = s.drawCount := rfl

/-! ### `gotoState` -/

@[simp] theorem gotoState_cfg (b : BehaviorState) : (gotoState b s).cfg = s.cfg := rfl
@[simp] theorem gotoState_cnt (b : BehaviorState) : (gotoState b s).cnt = s.cnt := rfl
@[simp] theorem gotoState_ovfPending (b : BehaviorState) : (gotoState b s).ovfPending = s.ovfPending := rfl
@[simp] theorem gotoState_capVal (b : BehaviorState) : (gotoState b s).capVal = s.capVal := rfl
@[simp] theorem gotoState_capPending (b : BehaviorState) : (gotoState b s).capPending = s.capPending := rfl
@[simp] theorem gotoState_rc (b : BehaviorState) : (gotoState b s).rc = s.rc := rfl
@[simp] theorem gotoState_prevTs (b : BehaviorState) : (gotoState b s).prevTs = s.prevTs := rfl
@[simp] theorem gotoState_havePrev (b : BehaviorState) : (gotoState b s).havePrev = s.havePrev := rfl
@[simp] theorem gotoState_smooth (b : BehaviorState) : (gotoState b s).smooth = s.smooth := rfl
@[simp] theorem gotoState_haveSmooth (b : BehaviorState) : (gotoState b s).haveSmooth = s.haveSmooth := rfl
@[simp] theorem gotoState_rState (b : BehaviorState) : (gotoState b s).rState = s.rState := rfl
@[simp] theorem gotoState_rHeld (b : BehaviorState) : (gotoState b s).rHeld = s.rHeld := rfl
@[simp] theorem gotoState_faultC (b : BehaviorState) : (gotoState b s).faultC = s.faultC := rfl
@[simp] theorem gotoState_pLatch (b : BehaviorState) : (gotoState b s).pLatch = s.pLatch := rfl
@[simp] theorem gotoState_pLast (b : BehaviorState) : (gotoState b s).pLast = s.pLast := rfl
@[simp] theorem gotoState_bState (b : BehaviorState) : (gotoState b s).bState = b := rfl
@[simp] theorem gotoState_q (b : BehaviorState) : (gotoState b s).q = s.q := rfl
@[simp] theorem gotoState_tActive (b : BehaviorState) : (gotoState b s).tActive = s.tActive := rfl
@[simp] theorem gotoState_tCount (b : BehaviorState) : (gotoState b s).tCount = s.tCount := rfl
@[simp] theorem gotoState_tEpoch (b : BehaviorState) : (gotoState b s).tEpoch = s.tEpoch := rfl
@[simp] theorem gotoState_actL (b : BehaviorState) : (gotoState b s).actL = s.actL := rfl
@[simp] theorem gotoState_actR (b : BehaviorState) : (gotoState b s).actR = s.actR := rfl
@[simp] theorem gotoState_faultM (b : BehaviorState) : (gotoState b s).faultM = s.faultM := rfl
@[simp] theorem gotoState_beaconPin (b : BehaviorState) : (gotoState b s).beaconPin = s.beaconPin := rfl
@[simp] theorem gotoState_tapePin (b : BehaviorState) : (gotoState b s).tapePin = s.tapePin := rfl
@[simp] theorem gotoState_script (b : BehaviorState) : (gotoState b s).script = s.script := rfl
@[simp] theorem gotoState_out (b : BehaviorState) : (gotoState b s).out = s.out := rfl
@[simp] theorem gotoState_initOkMIn (b : BehaviorState) : (gotoState b s).initOkMIn = s.initOkMIn := rfl
@[simp] theorem gotoState_initOkCIn (b : BehaviorState) : (gotoState b s).initOkCIn = s.initOkCIn := rfl
@[simp] theorem gotoState_haltedByteIn (b : BehaviorState) : (gotoState b s).haltedByteIn = s.haltedByteIn := rfl
@[simp] theorem gotoState_drawCount (b : BehaviorState) : (gotoState b s).drawCount = s.drawCount := rfl

/-! ### `post`: the fields it never writes -/

@[simp] theorem post_cfg (e : Entry) : (post e s).cfg = s.cfg := by unfold post; split <;> rfl
@[simp] theorem post_cnt (e : Entry) : (post e s).cnt = s.cnt := by unfold post; split <;> rfl
@[simp] theorem post_ovfPending (e : Entry) : (post e s).ovfPending = s.ovfPending := by unfold post; split <;> rfl
@[simp] theorem post_capVal (e : Entry) : (post e s).capVal = s.capVal := by unfold post; split <;> rfl
@[simp] theorem post_capPending (e : Entry) : (post e s).capPending = s.capPending := by unfold post; split <;> rfl
@[simp] theorem post_rc (e : Entry) : (post e s).rc = s.rc := by unfold post; split <;> rfl
@[simp] theorem post_prevTs (e : Entry) : (post e s).prevTs = s.prevTs := by unfold post; split <;> rfl
@[simp] theorem post_havePrev (e : Entry) : (post e s).havePrev = s.havePrev := by unfold post; split <;> rfl
@[simp] theorem post_smooth (e : Entry) : (post e s).smooth = s.smooth := by unfold post; split <;> rfl
@[simp] theorem post_haveSmooth (e : Entry) : (post e s).haveSmooth = s.haveSmooth := by unfold post; split <;> rfl
@[simp] theorem post_rState (e : Entry) : (post e s).rState = s.rState := by unfold post; split <;> rfl
@[simp] theorem post_rHeld (e : Entry) : (post e s).rHeld = s.rHeld := by unfold post; split <;> rfl
@[simp] theorem post_faultC (e : Entry) : (post e s).faultC = s.faultC := by unfold post; split <;> rfl
@[simp] theorem post_pLatch (e : Entry) : (post e s).pLatch = s.pLatch := by unfold post; split <;> rfl
@[simp] theorem post_pLast (e : Entry) : (post e s).pLast = s.pLast := by unfold post; split <;> rfl
@[simp] theorem post_bState (e : Entry) : (post e s).bState = s.bState := by unfold post; split <;> rfl
@[simp] theorem post_tActive (e : Entry) : (post e s).tActive = s.tActive := by unfold post; split <;> rfl
@[simp] theorem post_tCount (e : Entry) : (post e s).tCount = s.tCount := by unfold post; split <;> rfl
@[simp] theorem post_tEpoch (e : Entry) : (post e s).tEpoch = s.tEpoch := by unfold post; split <;> rfl
@[simp] theorem post_beaconPin (e : Entry) : (post e s).beaconPin = s.beaconPin := by unfold post; split <;> rfl
@[simp] theorem post_tapePin (e : Entry) : (post e s).tapePin = s.tapePin := by unfold post; split <;> rfl
@[simp] theorem post_script (e : Entry) : (post e s).script = s.script := by unfold post; split <;> rfl
@[simp] theorem post_initOkMIn (e : Entry) : (post e s).initOkMIn = s.initOkMIn := by unfold post; split <;> rfl
@[simp] theorem post_initOkCIn (e : Entry) : (post e s).initOkCIn = s.initOkCIn := by unfold post; split <;> rfl
@[simp] theorem post_haltedByteIn (e : Entry) : (post e s).haltedByteIn = s.haltedByteIn := by unfold post; split <;> rfl
@[simp] theorem post_drawCount (e : Entry) : (post e s).drawCount = s.drawCount := by unfold post; split <;> rfl

end

end Sys2Proof.Machine
end

