-- ==== Sys2Proof/Laws/Ops.lean ====
section
/-! SUPPORT. For each shared operation one lemma that says once everything it can do, and the facts about the queue
that every claim about posting rests on. -/

namespace Sys2Proof.Machine

/-! ### Enabling -/

theorem whileMotionRuns_cases (s t : State) :
    (s.faultM = 0#4 ∧ whileMotionRuns s t = .next t) ∨ (s.faultM ≠ 0#4 ∧ whileMotionRuns s t = .fault .motionHalted) := by
  unfold whileMotionRuns
  split <;> simp_all

theorem whileMotionRuns_next {s t u : State} (h : whileMotionRuns s t = .next u) : s.faultM = 0#4 ∧ u = t := by
  rcases whileMotionRuns_cases s t with ⟨h0, h1⟩ | ⟨_, h1⟩
  · rw [h1] at h
    exact ⟨h0, by simpa using h.symm⟩
  · rw [h1] at h
    cases h

@[simp] theorem whileMotionRuns_of_running {s : State} (h : s.faultM = 0#4) (t : State) :
    whileMotionRuns s t = .next t := by
  simp [whileMotionRuns, h]

@[simp] theorem whileMotionRuns_of_halted {s : State} (h : s.faultM ≠ 0#4) (t : State) :
    whileMotionRuns s t = .fault .motionHalted := by
  simp [whileMotionRuns, h]

/-! ### The queue -/

theorem post_cases (e : Entry) (s : State) :
    (s.q.length = s.cfg.qdepth ∧ post e s = raiseFault .queueOverflow s) ∨
    (s.q.length ≠ s.cfg.qdepth ∧ post e s = { s with q := s.q ++ [encodeEntry e] }) := by
  unfold post
  split <;> simp_all

theorem post_of_room {s : State} (e : Entry) (h : s.q.length ≠ s.cfg.qdepth) :
    post e s = { s with q := s.q ++ [encodeEntry e] } := by
  simp [post, h]

theorem post_of_full {s : State} (e : Entry) (h : s.q.length = s.cfg.qdepth) :
    post e s = raiseFault .queueOverflow s := by
  simp [post, h]

theorem dequeue_cases (s : State) :
    (s.q = [] ∧ dequeue s = none) ∨ (∃ e rest, s.q = e :: rest ∧ dequeue s = some (e, { s with q := rest })) := by
  unfold dequeue
  split <;> simp_all

theorem encodeEntry_wellFormed (e : Entry) : EntryWord.wellFormed (encodeEntry e) = true := by
  cases e with
  | newCommand c =>
    have := c.isLt
    have h1 : (1 * 2 ^ 20 + c.toNat * 2 ^ 12) / 2 ^ 20 = 1 := by omega
    have h2 : (1 * 2 ^ 20 + c.toNat * 2 ^ 12) % 2 ^ 12 = 0 := by omega
    simp only [EntryWord.wellFormed, encodeEntry, entryWord_toNat]
    simp
    omega
  | beaconDetected src => cases src <;> decide
  | tapeDetected src => cases src <;> decide
  | timeout tag =>
    have := tag.isLt
    simp only [EntryWord.wellFormed, encodeEntry, entryWord_toNat]
    simp
    omega

/-- `post` keeps the queue canonical. -/
theorem post_keeps_queueCanonical (e : Entry) (s : State) (h : QueueCanonical s) : QueueCanonical (post e s) := by
  obtain ⟨hlen, hwf⟩ := h
  rcases post_cases e s with ⟨_, h⟩ | ⟨hne, h⟩
  · rw [h]
    exact ⟨hlen, hwf⟩
  · rw [h]
    refine ⟨?_, ?_⟩
    · show (s.q ++ [encodeEntry e]).length ≤ s.cfg.qdepth
      simp
      omega
    · intro w hw
      rcases List.mem_append.1 hw with hw | hw
      · exact hwf w hw
      · rw [List.mem_singleton.1 hw]
        exact encodeEntry_wellFormed e

/-- `dequeue` keeps the queue canonical and frees a place. -/
theorem dequeue_keeps_queueCanonical {s s' : State} {e : EntryWord} (h : QueueCanonical s)
    (hd : dequeue s = some (e, s')) :
    QueueCanonical s' ∧ EntryWord.wellFormed e = true ∧ s'.q.length + 1 = s.q.length := by
  rcases dequeue_cases s with ⟨_, h0⟩ | ⟨e', rest, hq, h0⟩
  · rw [h0] at hd
    cases hd
  · rw [h0] at hd
    simp only [Option.some.injEq, Prod.mk.injEq] at hd
    obtain ⟨rfl, rfl⟩ := hd
    obtain ⟨hlen, hwf⟩ := h
    rw [hq] at hlen hwf
    refine ⟨⟨?_, fun w hw => hwf w (List.mem_cons_of_mem _ hw)⟩, hwf _ (by simp), by simp [hq]⟩
    simp at hlen ⊢
    omega

/-- The queue after power-on is canonical. -/
theorem powerOn_queueCanonical (cfg : Config) (b t m c : Bool) :
    QueueCanonical (State.powerOn cfg b t m c) := by
  refine ⟨by simp [State.powerOn], ?_⟩
  intro e he
  simp [State.powerOn] at he

/-! ### Free draws -/

theorem drawInitOkM_cases (s : State) :
    (∃ ok rest, s.initOkMIn = ok :: rest ∧ drawInitOkM s = (ok, { s with initOkMIn := rest })) ∨
    (s.initOkMIn = [] ∧ drawInitOkM s = (Config.initOkM s.drawCount, { s with drawCount := s.drawCount + 1 })) := by
  unfold drawInitOkM
  split <;> simp_all

theorem drawInitOkC_cases (s : State) :
    (∃ ok rest, s.initOkCIn = ok :: rest ∧ drawInitOkC s = (ok, { s with initOkCIn := rest })) ∨
    (s.initOkCIn = [] ∧ drawInitOkC s = (Config.initOkC s.drawCount, { s with drawCount := s.drawCount + 1 })) := by
  unfold drawInitOkC
  split <;> simp_all

theorem drawHaltedByte_cases (s : State) :
    (∃ b rest, s.haltedByteIn = b :: rest ∧ drawHaltedByte s = (b, { s with haltedByteIn := rest })) ∨
    (s.haltedByteIn = [] ∧
      drawHaltedByte s = (Config.haltedByte s.drawCount, { s with drawCount := s.drawCount + 1 })) := by
  unfold drawHaltedByte
  split <;> simp_all

/-! ### The link -/

theorem responderExchange_running {s : State} (h : s.faultC = 0#1) :
    responderExchange s = (preparedByte s.rState s.rHeld, { s with rState := advanceLink s.rState }) := by
  simp [responderExchange, h]

/-- What an exchange changes, whichever chip state: at most R_STATE, a settled reply and the draw counter. -/
theorem responderExchange_cases (s : State) :
    (s.faultC = 0#1 ∧ responderExchange s = (preparedByte s.rState s.rHeld, { s with rState := advanceLink s.rState })) ∨
    (s.faultC ≠ 0#1 ∧ ∃ b bs n, responderExchange s = (b, { s with haltedByteIn := bs, drawCount := n })) := by
  by_cases h : s.faultC = 0#1
  · exact .inl ⟨h, responderExchange_running h⟩
  · refine .inr ⟨h, ?_⟩
    have hr : responderExchange s = drawHaltedByte s := by simp [responderExchange, h]
    rcases drawHaltedByte_cases s with ⟨b, rest, _, h1⟩ | ⟨_, h1⟩
    · exact ⟨b, rest, s.drawCount, by rw [hr, h1]⟩
    · exact ⟨Config.haltedByte s.drawCount, s.haltedByteIn, s.drawCount + 1, by rw [hr, h1]⟩

theorem forwardCommand_cases (b : Byte) (s : State) :
    ((s.cfg.suppressEqualAfterFlag = false ∨ b ≠ s.pLast) ∧
      forwardCommand b s = setLast b (post (.newCommand b) s)) ∨
    ((s.cfg.suppressEqualAfterFlag = true ∧ b = s.pLast) ∧ forwardCommand b s = s) := by
  unfold forwardCommand
  split
  · rename_i h
    exact .inl ⟨h, rfl⟩
  · rename_i h
    simp only [not_or, Bool.not_eq_false, ne_eq, not_not] at h
    exact .inr ⟨h, rfl⟩

/-- Everything the Poller can do with a byte (41_command_link.md R143). -/
theorem pollerReceive_cases (b : Byte) (s : State) :
    (b = Config.flagByte ∧ pollerReceive b s = setLatch true s) ∨
    (b ≠ Config.flagByte ∧ s.pLatch = true ∧ (∃ k, classify s.cfg.code b = .cmd k) ∧
      pollerReceive b s = setLatch false (forwardCommand b s)) ∨
    (b ≠ Config.flagByte ∧ s.pLatch = true ∧ classify s.cfg.code b = .invalid ∧
      pollerReceive b s = setLatch false (emit (.protoErr b) s)) ∨
    (b ≠ Config.flagByte ∧ s.pLatch = false ∧ pollerReceive b s = s) := by
  unfold pollerReceive
  split
  · exact .inl ⟨‹_›, rfl⟩
  · rename_i hb
    split
    · rename_i hl
      split
      · rename_i k hk
        exact .inr (.inl ⟨hb, hl, ⟨k, hk⟩, rfl⟩)
      · rename_i hk
        exact absurd ((classify_flag_iff _ _).1 hk) hb
      · rename_i hk
        exact .inr (.inr (.inl ⟨hb, hl, hk, rfl⟩))
    · rename_i hl
      exact .inr (.inr (.inr ⟨hb, by simpa using hl, rfl⟩))

/-! ### The engine -/

theorem attributeRollover_cases (s : State) :
    (s.ovfPending = true ∧ s.capVal < s.cfg.half ∧
      attributeRollover s = { s with capPending := false, rc := nextRollover s.cfg s.rc, ovfPending := false }) ∨
    ((s.ovfPending = true → s.cfg.half ≤ s.capVal) ∧ attributeRollover s = { s with capPending := false }) := by
  unfold attributeRollover attributesRollover
  split
  · rename_i h
    simp only [Bool.and_eq_true, decide_eq_true_eq] at h
    exact .inl ⟨h.1, h.2, rfl⟩
  · rename_i h
    simp only [Bool.and_eq_true, decide_eq_true_eq, not_and, Nat.not_lt] at h
    exact .inr ⟨h, rfl⟩

theorem takeSample_cases (ts : Ticks) (s : State) :
    let s1 := { s with smooth := smoothed s.haveSmooth s.smooth (sampleDelta ts s.prevTs), haveSmooth := true }
    (qualifies s.cfg s1.smooth = true ∧ takeSample ts s = post (.beaconDetected .engine) s1) ∨
    (qualifies s.cfg s1.smooth = false ∧ takeSample ts s = s1) := by
  unfold takeSample
  simp only
  split <;> simp_all

/-! ### The behaviour controller -/

/-- Everything a handler can do with an entry (42_behavior_controller.md R190). -/
theorem handleEntry_cases (e : Entry) (s : State) :
    handleEntry e s = s ∨
    (s.bState ≠ .stopped ∧ handleEntry e s = stopAction s) ∨
    (s.bState ≠ .stopped ∧ ∃ c, e = .newCommand c ∧ handleEntry e s = preempt c s) ∨
    (s.bState = .stopped ∧
      ∃ c k, e = .newCommand c ∧ classify s.cfg.code c = .cmd k ∧ handleEntry e s = startCommand k s) := by
  cases e with
  | newCommand c =>
    simp only [handleEntry]
    unfold handleNewCommand
    split
    · rename_i hb
      split
      · rename_i k hk
        exact .inr (.inr (.inr ⟨hb, c, k, rfl, hk, rfl⟩))
      · exact .inl rfl
      · exact .inl rfl
    all_goals
      rename_i hb
      exact .inr (.inr (.inl ⟨by simp [hb], c, rfl, rfl⟩))
  | beaconDetected src =>
    simp only [handleEntry]
    unfold handleBeacon
    split
    · rename_i hb
      exact .inr (.inl ⟨by simp [hb], rfl⟩)
    all_goals exact .inl rfl
  | tapeDetected src =>
    simp only [handleEntry]
    unfold handleTape
    split
    · rename_i hb
      exact .inr (.inl ⟨by simp [hb], rfl⟩)
    all_goals exact .inl rfl
  | timeout tag =>
    simp only [handleEntry]
    unfold handleTimeout
    split
    · rename_i hb
      simp only [validTimeout, Bool.and_eq_true, decide_eq_true_eq] at hb
      exact .inr (.inl ⟨hb.2, rfl⟩)
    · exact .inl rfl

/-- Each of the seven entry forms runs its handler. -/
theorem exec_ofEntry (e : Entry) (s : State) : exec (.ofEntry e) s = whileMotionRuns s (handleEntry e s) := by
  cases e with
  | newCommand c => rfl
  | beaconDetected src => cases src <;> rfl
  | tapeDetected src => cases src <;> rfl
  | timeout tag => rfl

/-- Each of the eleven command bytes is received by the Poller. -/
theorem exec_ofKind (k : CmdKind) (s : State) :
    exec (.ofKind k) s = whileMotionRuns s (pollerReceive (s.cfg.code.byte k) s) := by
  cases k <;> rfl

theorem capIsr_next {s t : State} (h : execCapIsr s = .next t) :
    s.faultM = 0#4 ∧ s.capPending = true ∧ t = handleCapture s := by
  unfold execCapIsr at h
  split at h
  · cases h
  · rename_i hc
    obtain ⟨h0, h1⟩ := whileMotionRuns_next h
    exact ⟨h0, by simpa [h0] using hc, h1⟩

theorem ovfIsr_next {s t : State} (h : execOvfIsr s = .next t) :
    s.faultM = 0#4 ∧ s.ovfPending = true ∧ s.capPending = false ∧ t = countRollover s := by
  unfold execOvfIsr at h
  split at h
  · cases h
  · rename_i hc
    split at h
    · cases h
    · rename_i hd
      obtain ⟨h0, h1⟩ := whileMotionRuns_next h
      exact ⟨h0, by simpa [h0] using hc, by simpa [h0] using hd, h1⟩

theorem dispatch_next {s t : State} (h : execDispatch s = .next t) :
    s.faultM = 0#4 ∧ ∃ e rest, s.q = e :: rest ∧ t = runEntryWord e { s with q := rest } := by
  unfold execDispatch at h
  rcases dequeue_cases s with ⟨_, hd⟩ | ⟨e, rest, hq, hd⟩
  · rw [hd] at h
    simp only at h
    split at h <;> cases h
  · rw [hd] at h
    obtain ⟨h0, h1⟩ := whileMotionRuns_next h
    exact ⟨h0, e, rest, hq, h1⟩

theorem tickTimer_cases (s : State) :
    (s.tActive = false ∧ tickTimer s = s) ∨
    (s.tActive = true ∧ decrementTimer s.cfg s.tCount ≠ 0 ∧
      tickTimer s = { s with tCount := decrementTimer s.cfg s.tCount }) ∨
    (s.tActive = true ∧ decrementTimer s.cfg s.tCount = 0 ∧
      tickTimer s = post (.timeout s.tEpoch) { s with tCount := 0, tActive := false }) := by
  unfold tickTimer
  split
  · rename_i ha
    simp only
    split
    · rename_i h0
      exact .inr (.inr ⟨ha, h0, by rw [h0]⟩)
    · rename_i h0
      exact .inr (.inl ⟨ha, h0, rfl⟩)
  · rename_i ha
    exact .inl ⟨by simpa using ha, rfl⟩

/-- In its range the down-counter counts down by one. -/
theorem decrementTimer_of_pos {cfg : Config} {n : Nat} (h1 : 1 ≤ n) (h2 : n < 2 ^ cfg.tcw) :
    decrementTimer cfg n = n - 1 := by
  unfold decrementTimer
  have : n + (2 ^ cfg.tcw - 1) = (n - 1) + 2 ^ cfg.tcw := by omega
  rw [this, Nat.add_mod_right, Nat.mod_eq_of_lt (by omega)]

/-- In its range the composed timestamp is RC * 2^W + c (40_beacon_timing.md R114). -/
theorem composeTimestamp_toNat {cfg : Config} {rc c : Nat} (hc : c < 2 ^ cfg.w) :
    (composeTimestamp cfg rc c).toNat = (rc * 2 ^ cfg.w + c) % 2 ^ 32 := by
  unfold composeTimestamp
  rw [BitVec.toNat_ofNat, ← Nat.shiftLeft_add_eq_or_of_lt hc, Nat.shiftLeft_eq]

/-! ### The script -/

theorem fetchStimulus_cases (s : State) :
    (s.script = [] ∧ fetchStimulus s = none) ∨
    (∃ w rest, s.script = w :: rest ∧ fetchStimulus s = some (w, { s with script := rest })) := by
  unfold fetchStimulus
  split <;> simp_all

/-- Everything a step that answers a next state has done. -/
theorem step_next {s t : State} (h : step s = .next t) :
    ∃ w rest i, s.script = w :: rest ∧ decodeStimulus s.cfg.linkNoise w = .ok i ∧
      exec i { s with script := rest } = .next t := by
  unfold step at h
  rcases fetchStimulus_cases s with ⟨_, hf⟩ | ⟨w, rest, hs, hf⟩
  · rw [hf] at h
    cases h
  · rw [hf] at h
    simp only at h
    split at h
    · rename_i i hi
      exact ⟨w, rest, i, hs, hi, h⟩
    · cases h

end Sys2Proof.Machine
end

