-- ==== Sys2Proof/Laws/PerInstr.lean ====
section
/-! SUPPORT. Per-instruction family TableRow: the word of an instruction, with every operand at every value, has the
fixed bits of its row of spec/opcode_table.json (under RC1's codes, as the table's link bytes are). -/

namespace Sys2Proof

/-- The word of an encoding as the table numbers it: how many bits, and its value. -/
def Encoded.asRow : Encoded → Nat × Nat
  | .stimulus w => (32, w.toNat)
  | .entry e => (24, e.toNat)
  | .link b => (8, b.toNat)

/-- A row of the table: its length and its fixed fields, each (hi, lo, value). -/
structure TableRow where
  nbits : Nat
  fixed : List (Nat × Nat × Nat)

/-- The fixed fields of the row of each instruction, copied from spec/opcode_table.json. -/
def Instr.row : Instr → TableRow
  | .cnt => ⟨32, [(31, 0, 134217728)]⟩
  | .edge => ⟨32, [(31, 0, 268435456)]⟩
  | .capIsr => ⟨32, [(31, 0, 402653184)]⟩
  | .ovfIsr => ⟨32, [(31, 0, 536870912)]⟩
  | .diag => ⟨32, [(31, 0, 671088640)]⟩
  | .cmdIn _ => ⟨32, [(31, 8, 3145728)]⟩
  | .poll => ⟨32, [(31, 0, 939524096)]⟩
  | .pollNoisy _ => ⟨32, [(31, 8, 4194304)]⟩
  | .dispatch => ⟨32, [(31, 0, 1207959552)]⟩
  | .tmrTick => ⟨32, [(31, 0, 1342177280)]⟩
  | .beaconPin _ => ⟨32, [(31, 1, 738197504)]⟩
  | .tapePin _ => ⟨32, [(31, 1, 805306368)]⟩
  | .resetM => ⟨32, [(31, 0, 1744830464)]⟩
  | .resetC => ⟨32, [(31, 0, 1879048192)]⟩
  | .newCommand _ => ⟨24, [(11, 0, 0), (23, 20, 1)]⟩
  | .beaconEngine => ⟨24, [(23, 0, 2097152)]⟩
  | .beaconSensor => ⟨24, [(23, 0, 2101248)]⟩
  | .beaconSynthetic => ⟨24, [(23, 0, 2105344)]⟩
  | .tapeSensor => ⟨24, [(23, 0, 3149824)]⟩
  | .tapeSynthetic => ⟨24, [(23, 0, 3153920)]⟩
  | .timeout _ => ⟨24, [(23, 12, 1024)]⟩
  | .flag => ⟨8, [(7, 0, 255)]⟩
  | .cmdStop => ⟨8, [(7, 0, 0)]⟩
  | .cmdRotCw90 => ⟨8, [(7, 0, 2)]⟩
  | .cmdRotCw45 => ⟨8, [(7, 0, 3)]⟩
  | .cmdRotCcw90 => ⟨8, [(7, 0, 4)]⟩
  | .cmdRotCcw45 => ⟨8, [(7, 0, 5)]⟩
  | .cmdFwdHalf => ⟨8, [(7, 0, 8)]⟩
  | .cmdFwdFull => ⟨8, [(7, 0, 9)]⟩
  | .cmdRevHalf => ⟨8, [(7, 0, 16)]⟩
  | .cmdRevFull => ⟨8, [(7, 0, 17)]⟩
  | .cmdAlign => ⟨8, [(7, 0, 32)]⟩
  | .cmdSearchTape => ⟨8, [(7, 0, 64)]⟩

namespace Laws.TableRow

/-- The word has its row's length and every fixed field its row's value. -/
def Statement (i : Instr) : Prop :=
  (encode tableConfig i).asRow.1 = i.row.nbits ∧
  ∀ f ∈ i.row.fixed, (encode tableConfig i).asRow.2 / 2 ^ f.2.1 % 2 ^ (f.1 + 1 - f.2.1) = f.2.2

theorem cnt : Statement .cnt := by
  refine ⟨rfl, ?_⟩
  decide

theorem edge : Statement .edge := by
  refine ⟨rfl, ?_⟩
  decide

theorem capIsr : Statement .capIsr := by
  refine ⟨rfl, ?_⟩
  decide

theorem ovfIsr : Statement .ovfIsr := by
  refine ⟨rfl, ?_⟩
  decide

theorem diag : Statement .diag := by
  refine ⟨rfl, ?_⟩
  decide

theorem cmdIn (k : CmdKind) : Statement (.cmdIn k) := by
  refine ⟨rfl, ?_⟩
  cases k <;> decide

theorem poll : Statement .poll := by
  refine ⟨rfl, ?_⟩
  decide

theorem pollNoisy (x : Byte) : Statement (.pollNoisy x) := by
  have := x.isLt
  refine ⟨rfl, ?_⟩
  simp only [Instr.row, encode, Encoded.asRow, stimulusWord_toNat, List.mem_singleton, forall_eq]
  simp
  omega

theorem dispatch : Statement .dispatch := by
  refine ⟨rfl, ?_⟩
  decide

theorem tmrTick : Statement .tmrTick := by
  refine ⟨rfl, ?_⟩
  decide

theorem beaconPin (v : Bool) : Statement (.beaconPin v) := by
  refine ⟨rfl, ?_⟩
  cases v <;> decide

theorem tapePin (v : Bool) : Statement (.tapePin v) := by
  refine ⟨rfl, ?_⟩
  cases v <;> decide

theorem resetM : Statement .resetM := by
  refine ⟨rfl, ?_⟩
  decide

theorem resetC : Statement .resetC := by
  refine ⟨rfl, ?_⟩
  decide

theorem newCommand (c : Byte) : Statement (.newCommand c) := by
  have := c.isLt
  refine ⟨rfl, ?_⟩
  simp only [Instr.row, encode, encodeEntry, Encoded.asRow, entryWord_toNat, List.mem_cons, List.not_mem_nil, or_false,
    forall_eq_or_imp, forall_eq]
  simp
  omega

theorem beaconEngine : Statement .beaconEngine := by
  refine ⟨rfl, ?_⟩
  decide

theorem beaconSensor : Statement .beaconSensor := by
  refine ⟨rfl, ?_⟩
  decide

theorem beaconSynthetic : Statement .beaconSynthetic := by
  refine ⟨rfl, ?_⟩
  decide

theorem tapeSensor : Statement .tapeSensor := by
  refine ⟨rfl, ?_⟩
  decide

theorem tapeSynthetic : Statement .tapeSynthetic := by
  refine ⟨rfl, ?_⟩
  decide

theorem timeout (tag : Epoch) : Statement (.timeout tag) := by
  have := tag.isLt
  refine ⟨rfl, ?_⟩
  simp only [Instr.row, encode, encodeEntry, Encoded.asRow, entryWord_toNat, List.mem_singleton, forall_eq]
  simp
  omega

theorem flag : Statement .flag := by
  refine ⟨rfl, ?_⟩
  decide

theorem cmdStop : Statement .cmdStop := by
  refine ⟨rfl, ?_⟩
  decide

theorem cmdRotCw90 : Statement .cmdRotCw90 := by
  refine ⟨rfl, ?_⟩
  decide

theorem cmdRotCw45 : Statement .cmdRotCw45 := by
  refine ⟨rfl, ?_⟩
  decide

theorem cmdRotCcw90 : Statement .cmdRotCcw90 := by
  refine ⟨rfl, ?_⟩
  decide

theorem cmdRotCcw45 : Statement .cmdRotCcw45 := by
  refine ⟨rfl, ?_⟩
  decide

theorem cmdFwdHalf : Statement .cmdFwdHalf := by
  refine ⟨rfl, ?_⟩
  decide

theorem cmdFwdFull : Statement .cmdFwdFull := by
  refine ⟨rfl, ?_⟩
  decide

theorem cmdRevHalf : Statement .cmdRevHalf := by
  refine ⟨rfl, ?_⟩
  decide

theorem cmdRevFull : Statement .cmdRevFull := by
  refine ⟨rfl, ?_⟩
  decide

theorem cmdAlign : Statement .cmdAlign := by
  refine ⟨rfl, ?_⟩
  decide

theorem cmdSearchTape : Statement .cmdSearchTape := by
  refine ⟨rfl, ?_⟩
  decide

end Laws.TableRow

end Sys2Proof
end

