-- ==== Sys2Proof/Tests/Slice0.lean ====
section
/-! SUPPORT. Our own tests: every constructor's word written out from 30_encoding.md, the smoke test of every
well-formedness check, single steps with the expected values of 95_test_vectors.md (the vector's id stands beside
them), and for every statement with hypotheses a concrete state that meets them. -/

namespace Sys2Proof.Tests

open Sys2Proof Sys2Proof.Machine Sys2Proof.Claims

/-! ### Helpers -/

/-- S0 of 95_test_vectors.md. -/
def s0 : State := State.reset

/-- S0 with LINK_NOISE true. -/
def noisy : State := { s0 with cfg := tableConfig }

/-- The outcome is a next state with the property. -/
def goes (o : Host.Outcome State Fault Refusal) (p : State → Bool) : Bool :=
  match o with
  | .next t => p t
  | .fault _ => false
  | .refused _ => false

/-- The outcome is the fault `f`. -/
def stuck (f : Fault) (o : Host.Outcome State Fault Refusal) : Bool :=
  match o with
  | .next _ => false
  | .fault g => g == f
  | .refused _ => false

/-- The outcome is the refusal of an ill-formed word. -/
def refusedFor (e : DecodeError) (o : Host.Outcome State Fault Refusal) : Bool :=
  match o with
  | .next _ => false
  | .fault _ => false
  | .refused r => r == .illFormedWord e

/-- The configuration meets the constraints of 00_scope.md R9. -/
def legal (c : Config) : Bool := decide c.Legal

/-- A wheel pair of 95_test_vectors.md. -/
def fwd (n : Byte) : Wheel := { speed := n, dir := .forward }

/-- A wheel pair of 95_test_vectors.md. -/
def rev (n : Byte) : Wheel := { speed := n, dir := .reverse }

/-! ### Every constructor's word, written out from 30_encoding.md R84, R88 to R90, R93, R94 -/

theorem test_decode_cnt : decode tableConfig (.stimulus 0x08000000#32) = .ok (.cnt) := by decide

theorem test_decode_edge : decode tableConfig (.stimulus 0x10000000#32) = .ok (.edge) := by decide

theorem test_decode_capIsr : decode tableConfig (.stimulus 0x18000000#32) = .ok (.capIsr) := by decide

theorem test_decode_ovfIsr : decode tableConfig (.stimulus 0x20000000#32) = .ok (.ovfIsr) := by decide

theorem test_decode_diag : decode tableConfig (.stimulus 0x28000000#32) = .ok (.diag) := by decide

theorem test_decode_cmdIn : decode tableConfig (.stimulus 0x3000000A#32) = .ok (.cmdIn .searchTape) := by decide

theorem test_decode_poll : decode tableConfig (.stimulus 0x38000000#32) = .ok (.poll) := by decide

theorem test_decode_pollNoisy : decode tableConfig (.stimulus 0x400000A7#32) = .ok (.pollNoisy 0xA7#8) := by decide

theorem test_decode_dispatch : decode tableConfig (.stimulus 0x48000000#32) = .ok (.dispatch) := by decide

theorem test_decode_tmrTick : decode tableConfig (.stimulus 0x50000000#32) = .ok (.tmrTick) := by decide

theorem test_decode_beaconPin : decode tableConfig (.stimulus 0x58000001#32) = .ok (.beaconPin true) := by decide

theorem test_decode_tapePin : decode tableConfig (.stimulus 0x60000000#32) = .ok (.tapePin false) := by decide

theorem test_decode_resetM : decode tableConfig (.stimulus 0x68000000#32) = .ok (.resetM) := by decide

theorem test_decode_resetC : decode tableConfig (.stimulus 0x70000000#32) = .ok (.resetC) := by decide

theorem test_decode_newCommand : decode tableConfig (.entry 0x109000#24) = .ok (.newCommand 0x09#8) := by decide

theorem test_decode_beaconEngine : decode tableConfig (.entry 0x200000#24) = .ok (.beaconEngine) := by decide

theorem test_decode_beaconSensor : decode tableConfig (.entry 0x201000#24) = .ok (.beaconSensor) := by decide

theorem test_decode_beaconSynthetic : decode tableConfig (.entry 0x202000#24) = .ok (.beaconSynthetic) := by decide

theorem test_decode_tapeSensor : decode tableConfig (.entry 0x301000#24) = .ok (.tapeSensor) := by decide

theorem test_decode_tapeSynthetic : decode tableConfig (.entry 0x302000#24) = .ok (.tapeSynthetic) := by decide

theorem test_decode_timeout : decode tableConfig (.entry 0x400ABC#24) = .ok (.timeout 0xABC#12) := by decide

theorem test_decode_flag : decode tableConfig (.link 0xFF#8) = .ok (.flag) := by decide

theorem test_decode_cmdStop : decode tableConfig (.link 0x00#8) = .ok (.cmdStop) := by decide

theorem test_decode_cmdRotCw90 : decode tableConfig (.link 0x02#8) = .ok (.cmdRotCw90) := by decide

theorem test_decode_cmdRotCw45 : decode tableConfig (.link 0x03#8) = .ok (.cmdRotCw45) := by decide

theorem test_decode_cmdRotCcw90 : decode tableConfig (.link 0x04#8) = .ok (.cmdRotCcw90) := by decide

theorem test_decode_cmdRotCcw45 : decode tableConfig (.link 0x05#8) = .ok (.cmdRotCcw45) := by decide

theorem test_decode_cmdFwdHalf : decode tableConfig (.link 0x08#8) = .ok (.cmdFwdHalf) := by decide

theorem test_decode_cmdFwdFull : decode tableConfig (.link 0x09#8) = .ok (.cmdFwdFull) := by decide

theorem test_decode_cmdRevHalf : decode tableConfig (.link 0x10#8) = .ok (.cmdRevHalf) := by decide

theorem test_decode_cmdRevFull : decode tableConfig (.link 0x11#8) = .ok (.cmdRevFull) := by decide

theorem test_decode_cmdAlign : decode tableConfig (.link 0x20#8) = .ok (.cmdAlign) := by decide

theorem test_decode_cmdSearchTape : decode tableConfig (.link 0x40#8) = .ok (.cmdSearchTape) := by decide

theorem test_decode_kinds_in_order :
    (CmdKind.all.map kindArg) = [0#8, 1#8, 2#8, 3#8, 4#8, 5#8, 6#8, 7#8, 8#8, 9#8, 10#8] := by decide

theorem test_table_word : decodeTableWord 32 0x30000006 = some (.cmdIn .fwdFull) := by decide

theorem test_table_word_link : decodeTableWord 16 0x0111 = some .cmdRevFull := by decide

theorem test_fetch_word : goes (step (s0.withFetchWord 24 0x109000)) (fun t => t.bState == .simpleMoving) = true := by
  decide

/-! ### Well-formedness: an ill-formed term for each check, refused by the check and by the decoder -/

theorem smoke_pollNoisy_needs_linkNoise :
    Instr.wellFormed Config.rc1 (.pollNoisy 0x07#8) = false ∧ Instr.wellFormed tableConfig (.pollNoisy 0x07#8) = true ∧
    refusedFor .linkNoiseOff (step { s0 with script := [0x40000007#32] }) = true := by decide

theorem smoke_op_zero :
    StimulusWord.wellFormed Config.rc1 0x00000000#32 = false ∧
    refusedFor (.reservedOp 0x00#5) (step { s0 with script := [0x00000000#32] }) = true := by decide

theorem smoke_op_above_14 :
    StimulusWord.wellFormed Config.rc1 0x78000000#32 = false ∧
    refusedFor (.reservedOp 0x0F#5) (step { s0 with script := [0x78000000#32] }) = true := by decide

theorem smoke_bits_26_to_8 :
    StimulusWord.wellFormed Config.rc1 0x08000100#32 = false ∧ StimulusWord.wellFormed Config.rc1 0x0C000000#32 = false ∧
    refusedFor .reservedBits (step { s0 with script := [0x0C000000#32] }) = true := by decide

theorem smoke_arg_of_a_plain_operation :
    StimulusWord.wellFormed Config.rc1 0x48000001#32 = false ∧
    refusedFor (.badArg 1#8) (step { s0 with script := [0x48000001#32] }) = true := by decide

theorem smoke_kind_above_10 :
    StimulusWord.wellFormed Config.rc1 0x3000000B#32 = false ∧
    refusedFor (.badArg 11#8) (step { s0 with script := [0x3000000B#32] }) = true := by decide

theorem smoke_level_above_1 :
    StimulusWord.wellFormed Config.rc1 0x58000002#32 = false ∧ StimulusWord.wellFormed Config.rc1 0x60000002#32 = false ∧
    refusedFor (.badArg 2#8) (step { s0 with script := [0x60000002#32] }) = true := by decide

theorem smoke_entry_type :
    EntryWord.wellFormed 0x000000#24 = false ∧ EntryWord.wellFormed 0x500000#24 = false ∧
    decodeEntry 0x500000#24 = .error (.reservedEventType 5#4) := by decide

theorem smoke_entry_arg :
    EntryWord.wellFormed 0x203000#24 = false ∧ EntryWord.wellFormed 0x300000#24 = false ∧
    EntryWord.wellFormed 0x303000#24 = false ∧ EntryWord.wellFormed 0x401000#24 = false ∧
    decodeEntry 0x300000#24 = .error (.badEventArg 0#8) ∧ decodeEntry 0x401000#24 = .error (.badEventArg 1#8) := by decide

theorem smoke_entry_tag :
    EntryWord.wellFormed 0x109001#24 = false ∧ EntryWord.wellFormed 0x200001#24 = false ∧
    decodeEntry 0x109001#24 = .error (.badEventTag 1#12) := by decide

theorem smoke_link_byte : decodeLink CodeTable.rc1 0x07#8 = .error (.notALinkCode 0x07#8) := by decide

theorem smoke_code_injective : ¬ CodeTable.Legal { CodeTable.rc1 with align := 0x40#8 } := by decide

theorem smoke_code_not_flag : ¬ CodeTable.Legal { CodeTable.rc1 with align := 0xFF#8 } := by decide

theorem smoke_code_fwdFull : ¬ CodeTable.Legal { CodeTable.rc1 with fwdFull := 0x0A#8 } := by decide

theorem smoke_config :
    legal { Config.rc1 with w := 1 } = false ∧ legal { Config.rc1 with w := 32 } = false ∧
    legal { Config.rc1 with prescale := 0 } = false ∧ legal { Config.rc1 with tol := 1428 } = false ∧
    legal { Config.rc1 with qdepth := 4096 } = false ∧ legal { Config.rc1 with tAlign := 0 } = false ∧
    legal { Config.rc1 with tSearch := 65536 } = false ∧ legal { Config.rc1 with dutyRot := 101#8 } = false := by
  decide

theorem test_rc1_legal : Config.rc1.Legal := by decide

/-! ### Reset (10_state.md R52, 70_reset_and_hazards.md) -/

theorem test_reset_motion :
    s0.cnt = 0 ∧ s0.rc = 0 ∧ s0.smooth = 0#32 ∧ s0.havePrev = false ∧ s0.bState = .stopped ∧ s0.q = [] ∧
    s0.tEpoch = 0#12 ∧ s0.actL = fwd 0#8 ∧ s0.faultM = 0#4 ∧ s0.pLast = 0x00#8 := by decide

theorem test_reset_command : s0.rState = .awaitingCommand ∧ s0.rHeld = 0x00#8 ∧ s0.faultC = 0#1 := by decide

theorem test_script_ends : (match step s0 with | .refused r => r == .scriptEnded | _ => false) = true := by decide

/-! ### Single steps (95_test_vectors.md) -/

/-- E2. -/
theorem test_cnt_wraps : goes (exec .cnt { s0 with cnt := 0xFFFF }) (fun t => t.cnt == 0 && t.ovfPending) = true := by
  decide

/-- E4. -/
theorem test_edge_captures :
    goes (exec .edge { s0 with cnt := 0x06C8 }) (fun t => t.capVal == 0x06C8 && t.capPending) = true := by decide

/-- E5. -/
theorem test_edge_overruns :
    goes (exec .edge { s0 with cnt := 0x0700, capVal := 0x06C8, capPending := true })
      (fun t => t.faultM == 4#4 && t.capVal == 0x06C8 && t.out == [.actuate (fwd 0#8) (fwd 0#8)]) = true := by decide

/-- E7. -/
theorem test_capIsr_crosses_the_count :
    goes (exec .capIsr { s0 with
        rc := 0xFFFF, prevTs := 0xFFFFF000#32, havePrev := true, ovfPending := true, capVal := 0x06C8,
        capPending := true })
      (fun t => t.rc == 0 && !t.ovfPending && t.prevTs == 0x000006C8#32 && t.smooth == 5832#32 && t.q == []) = true := by
  decide

/-- P1, step 7, from its step 6. -/
theorem test_capIsr_smooths_and_detects :
    goes (exec .capIsr { s0 with
        rc := 1, prevTs := 0x000100D8#32, havePrev := true, smooth := 1752#32, haveSmooth := true, capVal := 0x07B6,
        capPending := true, q := [0x200000#24] })
      (fun t => t.smooth == 1753#32 && t.q == [0x200000#24, 0x200000#24]) = true := by decide

/-- E11. -/
theorem test_ovfIsr_wraps :
    goes (exec .ovfIsr { s0 with rc := 0xFFFF, ovfPending := true }) (fun t => t.rc == 0 && !t.ovfPending) = true := by
  decide

/-- E12. -/
theorem test_ovfIsr_waits :
    stuck .capturePendingFirst (exec .ovfIsr { s0 with ovfPending := true, capPending := true }) = true := by decide

/-- P1, step 8. -/
theorem test_diag :
    goes (exec .diag { s0 with smooth := 1753#32 }) (fun t => t.out == [.diagReport 1426 1753#32]) = true := by decide

/-- E16, E17, E21, E22. -/
theorem test_band :
    qualifies Config.rc1 1727#32 = false ∧ qualifies Config.rc1 1728#32 = true ∧ qualifies Config.rc1 1775#32 = true ∧
    qualifies Config.rc1 1776#32 = false := by decide

/-- K2. -/
theorem test_cmdIn_arms :
    goes (exec (.cmdIn .fwdFull) s0) (fun t => t.rState == .flagQueued && t.rHeld == 0x09#8) = true := by decide

/-- K3. -/
theorem test_cmdIn_same_kind :
    goes (exec (.cmdIn .fwdFull) { s0 with rHeld := 0x09#8 }) (fun t => t.rState == .awaitingCommand) = true := by decide

/-- P3, step 2. -/
theorem test_poll_flag :
    goes (exec .poll { s0 with rState := .flagQueued, rHeld := 0x09#8 })
      (fun t => t.rState == .payloadQueued && t.pLatch && t.q == []) = true := by decide

/-- P3, step 3. -/
theorem test_poll_payload :
    goes (exec .poll { s0 with rState := .payloadQueued, rHeld := 0x09#8, pLatch := true })
      (fun t => t.rState == .awaitingCommand && !t.pLatch && t.pLast == 0x09#8 && t.q == [0x109000#24]) = true := by
  decide

/-- K8. -/
theorem test_pollNoisy_invalid :
    goes (exec (.pollNoisy 0x07#8) { noisy with rState := .payloadQueued, rHeld := 0x10#8, pLatch := true })
      (fun t => t.out == [.protoErr 0x07#8] && !t.pLatch && t.rState == .awaitingCommand && t.q == []) = true := by decide

/-- K9, its first step. -/
theorem test_pollNoisy_flag : goes (exec (.pollNoisy 0xFF#8) noisy) (fun t => t.pLatch && t.q == []) = true := by decide

/-- F6. -/
theorem test_dispatch_reposts_into_a_full_queue :
    goes (exec .dispatch { s0 with bState := .simpleMoving, q := 0x100000#24 :: List.replicate 7 0x201000#24 })
      (fun t => t.faultM == 0#4 && t.q == List.replicate 7 0x201000#24 ++ [0x100000#24]) = true := by decide

/-- F7. -/
theorem test_dispatch_bad_event :
    goes (exec .dispatch { s0 with q := [0x000000#24] })
      (fun t => t.faultM == 8#4 && t.bState == .stopped && t.out == [.actuate (fwd 0#8) (fwd 0#8)]) = true := by decide

/-- B17. -/
theorem test_tmrTick_expires :
    goes (exec .tmrTick { s0 with tActive := true, tCount := 1, tEpoch := 4#12, bState := .simpleMoving })
      (fun t => !t.tActive && t.tCount == 0 && t.q == [0x400004#24]) = true := by decide

/-- B18. -/
theorem test_tmrTick_inactive :
    goes (exec .tmrTick { s0 with tCount := 10 }) (fun t => t.tCount == 10 && t.q == []) = true := by decide

/-- B20. -/
theorem test_beaconPin_rises :
    goes (exec (.beaconPin true) s0) (fun t => t.beaconPin && t.q == [0x201000#24]) = true := by decide

/-- F1, its ninth BEACON_PIN 1. -/
theorem test_beaconPin_overflows :
    goes (exec (.beaconPin true) { s0 with q := List.replicate 8 0x201000#24 })
      (fun t => t.beaconPin && t.faultM == 2#4 && t.q == List.replicate 8 0x201000#24 &&
        t.out == [.actuate (fwd 0#8) (fwd 0#8)]) = true := by decide

/-- B22. -/
theorem test_tapePin_falls :
    goes (exec (.tapePin false) s0) (fun t => !t.tapePin && t.q == [0x301000#24]) = true := by decide

/-- B23. -/
theorem test_tapePin_rises :
    goes (exec (.tapePin true) { s0 with tapePin := false }) (fun t => t.tapePin && t.q == []) = true := by decide

/-- F4. -/
theorem test_resetM :
    goes (exec .resetM { s0 with
        faultM := 2#4, beaconPin := true, q := [0x201000#24], cnt := 5, initOkMIn := [true] })
      (fun t => t.faultM == 0#4 && t.beaconPin && t.q == [] && t.cnt == 0 && t.out == []) = true := by decide

/-- F8. -/
theorem test_resetM_fails :
    goes (exec .resetM { s0 with initOkMIn := [false] }) (fun t => t.faultM == 1#4 && t.out == []) = true := by decide

/-- The example of 70_reset_and_hazards.md R261. -/
theorem test_resetC :
    goes (exec .resetC { s0 with rState := .payloadQueued, rHeld := 0x09#8, initOkCIn := [true] })
      (fun t => t.rState == .awaitingCommand && t.rHeld == 0x00#8 && t.faultC == 0#1) = true := by decide

/-- F9. -/
theorem test_resetC_fails :
    goes (exec .resetC { s0 with initOkCIn := [false] }) (fun t => t.faultC == 1#1 && t.rHeld == 0x00#8) = true := by
  decide

/-- The row ROT_CW_90 of vector 1.1. -/
theorem test_newCommand_rotates :
    goes (exec (.newCommand 0x02#8) s0)
      (fun t => t.bState == .simpleMoving && t.tActive && t.tCount == 6 && t.actL == fwd 60#8 && t.actR == rev 60#8) =
    true := by decide

/-- B4. -/
theorem test_newCommand_preempts :
    goes (exec (.newCommand 0x00#8) { s0 with bState := .simpleMoving, actL := fwd 100#8, actR := fwd 100#8 })
      (fun t => t.bState == .stopped && t.tEpoch == 1#12 && t.actL == fwd 0#8 && t.q == [0x100000#24]) = true := by decide

/-- B12. -/
theorem test_beaconEngine_aligned :
    goes (exec .beaconEngine { s0 with bState := .aligningWithBeacon, tActive := true })
      (fun t => t.bState == .stopped && !t.tActive && t.tEpoch == 1#12) = true := by decide

/-- B10. -/
theorem test_beaconEngine_searching :
    goes (exec .beaconEngine { s0 with bState := .searchingForTape }) (fun t => t.bState == .searchingForTape) = true := by
  decide

/-- P4, step 6. -/
theorem test_beaconSensor_aligned :
    goes (exec .beaconSensor { s0 with bState := .aligningWithBeacon, q := [0x400000#24] })
      (fun t => t.bState == .stopped && t.tEpoch == 1#12 && t.q == [0x400000#24]) = true := by decide

/-- P5, step 5. -/
theorem test_beaconSynthetic_aligned :
    goes (exec .beaconSynthetic { s0 with bState := .aligningWithBeacon })
      (fun t => t.bState == .stopped && t.out == [.actuate (fwd 0#8) (fwd 0#8)]) = true := by decide

/-- B8. -/
theorem test_tapeSensor_searching :
    goes (exec .tapeSensor { s0 with bState := .searchingForTape, tActive := true })
      (fun t => t.bState == .stopped && !t.tActive && t.tEpoch == 1#12) = true := by decide

/-- B26. -/
theorem test_tapeSynthetic_searching :
    goes (exec .tapeSynthetic { s0 with bState := .searchingForTape }) (fun t => t.bState == .stopped) = true := by decide

/-- B24. -/
theorem test_timeout_wraps_the_epoch :
    goes (exec (.timeout 0xFFF#12) { s0 with bState := .simpleMoving, tEpoch := 0xFFF#12 })
      (fun t => t.bState == .stopped && t.tEpoch == 0x000#12) = true := by decide

/-- B2. -/
theorem test_timeout_in_stopped :
    goes (exec (.timeout 3#12) { s0 with tEpoch := 3#12 }) (fun t => t.tEpoch == 3#12 && t.out == []) = true := by decide

/-- K11. -/
theorem test_flag_byte : goes (exec .flag { s0 with pLatch := true }) (fun t => t.pLatch && t.q == []) = true := by decide

/-- The bytes received in vector 1.2, each after a flag. -/
theorem test_command_bytes :
    goes (exec .cmdStop { s0 with pLatch := true }) (fun t => t.q == [0x100000#24] && !t.pLatch) = true ∧
    goes (exec .cmdRotCw90 { s0 with pLatch := true }) (fun t => t.q == [0x102000#24] && !t.pLatch) = true ∧
    goes (exec .cmdRotCw45 { s0 with pLatch := true }) (fun t => t.q == [0x103000#24] && !t.pLatch) = true ∧
    goes (exec .cmdRotCcw90 { s0 with pLatch := true }) (fun t => t.q == [0x104000#24] && !t.pLatch) = true ∧
    goes (exec .cmdRotCcw45 { s0 with pLatch := true }) (fun t => t.q == [0x105000#24] && !t.pLatch) = true ∧
    goes (exec .cmdFwdHalf { s0 with pLatch := true }) (fun t => t.q == [0x108000#24] && !t.pLatch) = true ∧
    goes (exec .cmdFwdFull { s0 with pLatch := true }) (fun t => t.q == [0x109000#24] && !t.pLatch) = true ∧
    goes (exec .cmdRevHalf { s0 with pLatch := true }) (fun t => t.q == [0x110000#24] && !t.pLatch) = true ∧
    goes (exec .cmdRevFull { s0 with pLatch := true }) (fun t => t.q == [0x111000#24] && !t.pLatch) = true ∧
    goes (exec .cmdAlign { s0 with pLatch := true }) (fun t => t.q == [0x120000#24] && !t.pLatch) = true ∧
    goes (exec .cmdSearchTape { s0 with pLatch := true }) (fun t => t.q == [0x140000#24] && !t.pLatch) = true := by
  decide

/-! ### Script text and pseudo-operations (30_encoding.md R96, R97) -/

theorem test_line : parseLine "CMD_IN FWD_FULL ; drive".toList = some [.op (.cmdIn .fwdFull)] := by decide

theorem test_line_hex : parseLine "POLL_NOISY 0x07".toList = some [.op (.pollNoisy 0x07#8)] := by decide

theorem test_deliver : stimulusWords Config.rc1 ((Pseudo.deliver .align).expand s0) =
    [0x30000009#32, 0x38000000#32, 0x38000000#32] := by decide

theorem test_drain : drainLength (8 + 16) { s0 with q := [0x200000#24, 0x200000#24] } = 2 := by decide

/-! ### Witnesses: for every statement with hypotheses a state and operands that meet them -/

theorem witness_DecodingAnEncodedInstructionGivesItBack :
    tableConfig.code.Legal ∧ Instr.wellFormed tableConfig (.pollNoisy 0xFF#8) = true ∧
    Instr.wellFormed tableConfig (.timeout 0xFFF#12) = true := by decide

theorem witness_EncodingADecodedWordGivesItBack :
    decode tableConfig (.link 0x09#8) = .ok .cmdFwdFull ∧ decode tableConfig (.entry 0x400FFF#24) = .ok (.timeout 0xFFF#12) := by
  decide

theorem witness_IllFormedStimulusWordsAreRefused :
    { s0 with script := [0x3000000B#32] }.script = 0x3000000B#32 :: [] ∧
    StimulusWord.wellFormed s0.cfg 0x3000000B#32 = false ∧ StimulusWord.wellFormed s0.cfg 0x3000000A#32 = true := by decide

theorem witness_ReservedEntriesRaiseBadEvent :
    s0.faultM = 0#4 ∧ { s0 with q := [0x300000#24] }.q = 0x300000#24 :: [] ∧
    EntryWord.wellFormed 0x300000#24 = false := by decide

theorem witness_LinkBytesAreClassified :
    CodeTable.rc1.Legal ∧ CodeTable.rc1.byte .fwdFull = 0x09#8 ∧ (0xFE#8 ≠ 0xFF#8) ∧
    (∀ k ∈ CmdKind.all, CodeTable.rc1.byte k ≠ 0xFE#8) := by decide

theorem witness_StepRunsTheDecodedStimulus :
    { s0 with script := [0x08000000#32] }.script = 0x08000000#32 :: [] ∧
    decodeStimulus s0.cfg.linkNoise 0x08000000#32 = .ok .cnt := by decide

theorem witness_StepRunsTheQueuedEntry :
    { s0 with script := [0x48000000#32], q := [0x109000#24] }.script = 0x48000000#32 :: [] ∧ s0.faultM = 0#4 ∧
    { s0 with script := [0x48000000#32], q := [0x109000#24] }.q = 0x109000#24 :: [] ∧
    decode s0.cfg (.entry 0x109000#24) = .ok (.newCommand 0x09#8) := by decide

theorem witness_StepRunsThePolledByte :
    { s0 with script := [0x38000000#32], rState := .flagQueued }.script = 0x38000000#32 :: [] ∧ s0.faultC = 0#1 ∧
    decode s0.cfg (.link 0xFF#8) = .ok .flag ∧ decode s0.cfg (.link s0.rHeld) = .ok .cmdStop := by decide

/-- S0 with the motion chip halted. -/
def halted : State := { s0 with faultM := 8#4 }

/-- S0 with the command chip halted. -/
def haltedC : State := { s0 with faultC := 1#1 }

theorem witness_CntAdvancesAndFlagsTheWrap : s0.faultM = 0#4 ∧ halted.faultM ≠ 0#4 := by decide

theorem witness_EdgeLatchesTheCounterOrOverruns :
    s0.faultM = 0#4 ∧ s0.capPending = false ∧ { s0 with capPending := true }.capPending = true ∧ halted.faultM ≠ 0#4 := by
  decide

theorem witness_CapIsrExtendsSmoothsAndClassifies :
    s0.faultM = 0#4 ∧ s0.capPending = false ∧ { s0 with capPending := true }.capPending = true ∧ halted.faultM ≠ 0#4 := by
  decide

theorem witness_OvfIsrCountsAPendingRollover :
    s0.faultM = 0#4 ∧ s0.ovfPending = false ∧ s0.capPending = false ∧ { s0 with ovfPending := true }.ovfPending = true ∧
    { s0 with ovfPending := true, capPending := true }.capPending = true ∧ halted.faultM ≠ 0#4 := by decide

theorem witness_DiagReportsAndWritesNothing : s0.faultM = 0#4 ∧ halted.faultM ≠ 0#4 := by decide

/-- A state with a capture and a rollover pending, at both ends of the ranges. -/
def capState : State :=
  { s0 with
    cnt := 0x7FFE, ovfPending := true, capVal := 0xFFFF, capPending := true, rc := 0xFFFF, prevTs := 0xFFFF0000#32,
    havePrev := true }

theorem witness_TimestampSplitsIntoCountAndCapture :
    capState.cfg.w < 32 ∧ RegistersInRange capState ∧ goes (exec .capIsr capState) (fun _ => true) = true := by
  unfold RegistersInRange
  decide

theorem witness_ZeroIntervalIsNeverDetected :
    s0.cfg.tol ≤ 1427 ∧
    goes (exec .capIsr { s0 with capPending := true, havePrev := true }) (fun t => t.smooth == 0#32) = true := by decide

theorem witness_DetectionBandIsExact :
    Config.rc1.Legal ∧ qualifies Config.rc1 1775#32 = true ∧ qualifies Config.rc1 1776#32 = false := by decide

/-- An edge one count before the wrap, a wrap not yet counted, one count after it. -/
def wrapped : State :=
  { s0 with cnt := 1, ovfPending := true, capVal := 0xFFFF, capPending := true, prevTs := 0xFF00#32, havePrev := true }

/-- The true counts of `wrapped`. -/
def wrappedCounts : Counts := { now := 65537, edge := 65535, prev := 65280 }

theorem wrapped_true : CountsTrue wrapped wrappedCounts where
  width := by decide
  counter := by decide
  rollovers := by decide
  rcWidth := by decide
  wrapRecent := by decide
  edgePast := by decide
  captured := by decide
  previous := by decide

theorem witness_PromptSchedulesKeepTheCountsTrue :
    CountsTrue wrapped wrappedCounts ∧ Prompt wrapped .cnt wrappedCounts ∧
    goes (exec .cnt wrapped) (fun _ => true) = true ∧ goes (exec .capIsr wrapped) (fun _ => true) = true := by
  refine ⟨wrapped_true, ?_, ?_, ?_⟩
  · unfold Prompt
    decide
  · decide
  · decide

theorem witness_CapturedTimestampsAreTrueCounts :
    CountsTrue wrapped wrappedCounts ∧ wrapped.faultM = 0#4 ∧ wrapped.capPending = true ∧ wrapped.havePrev = true ∧
    wrapped.haveSmooth = false ∧ wrappedCounts.edge - wrappedCounts.prev < 2 ^ 32 := by
  refine ⟨wrapped_true, ?_⟩
  decide

/-- The last clause: a later sample. -/
theorem witness_CapturedTimestampsAreTrueCounts_later :
    CountsTrue { wrapped with haveSmooth := true, smooth := 1752#32 } wrappedCounts := by
  obtain ⟨a, b, c, d, e, f, g, h⟩ := wrapped_true
  exact ⟨a, b, c, d, e, f, g, h⟩

theorem witness_CmdInArmsTheResponder :
    CmdKind.all[10]? = some .searchTape ∧ s0.faultC = 0#1 ∧ s0.cfg.code.byte .searchTape ≠ s0.rHeld ∧
    { s0 with rHeld := 0x40#8 }.cfg.code.byte .searchTape = { s0 with rHeld := 0x40#8 }.rHeld ∧
    CmdKind.searchTape ≠ .stop ∧ haltedC.faultC ≠ 0#1 := by decide

/-- With the clauses of Received: the flag, a byte without a flag, a code after a flag, an invalid byte after a flag. -/
theorem witness_LinkBytesAreReceived :
    s0.faultM = 0#4 ∧ halted.faultM ≠ 0#4 ∧ s0.cfg.code.Legal ∧ { s0 with pLatch := true }.pLatch = true ∧ s0.pLatch = false ∧
    s0.cfg.code.byte .fwdFull = 0x09#8 ∧ (0x07#8 ≠ 0xFF#8) ∧ (∀ k ∈ CmdKind.all, s0.cfg.code.byte k ≠ 0x07#8) := by decide

theorem witness_PollReceivesThePreparedByte :
    s0.faultM = 0#4 ∧ s0.faultC = 0#1 ∧ haltedC.faultM = 0#4 ∧ haltedC.faultC ≠ 0#1 ∧ halted.faultM ≠ 0#4 ∧ { s0 with rState := .flagQueued }.rState = .flagQueued ∧
    s0.rState ≠ .flagQueued := by decide

theorem witness_HaltedCommandChipRepliesAnyByte :
    s0.faultM = 0#4 ∧ { s0 with faultC := 1#1 }.faultC ≠ 0#1 ∧
    { s0 with faultC := 1#1, haltedByteIn := [0xFF#8] }.haltedByteIn = 0xFF#8 :: [] ∧ s0.haltedByteIn = [] := by decide

theorem witness_PollNoisyReceivesItsOperand :
    noisy.cfg.linkNoise = true ∧ noisy.faultM = 0#4 ∧ noisy.faultC = 0#1 ∧ { noisy with faultC := 1#1 }.faultC ≠ 0#1 ∧
    s0.cfg.linkNoise = false ∧ s0.faultM = 0#4 ∧ halted.faultM ≠ 0#4 := by decide

theorem witness_DeliveryRoundTrip :
    s0.cfg.code.Legal ∧ s0.faultM = 0#4 ∧ s0.faultC = 0#1 ∧ s0.rState = .awaitingCommand ∧ s0.pLatch = false ∧
    s0.rHeld ≠ s0.cfg.code.byte .fwdFull ∧ s0.cfg.suppressEqualAfterFlag = false ∧
    { s0 with q := List.replicate 7 0x201000#24 }.q.length ≠ s0.cfg.qdepth := by decide

theorem witness_RepeatedPollsChangeNothing :
    s0.faultM = 0#4 ∧ s0.faultC = 0#1 ∧ s0.rState = .awaitingCommand ∧ s0.pLatch = false ∧ s0.rHeld ≠ 0xFF#8 := by decide

theorem witness_OnlyFlaggedHeldCommandsAreForwarded :
    s0.cfg.code.Legal ∧ s0.faultC = 0#1 ∧
    goes (exec .poll { s0 with rState := .payloadQueued, rHeld := 0x09#8, pLatch := true })
      (fun t => t.q == s0.q ++ [0x109000#24]) = true := by decide

theorem witness_IndependentResetsMidHandshake :
    s0.cfg.code.Legal ∧ 1 ≤ s0.cfg.qdepth ∧ s0.faultM = 0#4 ∧ s0.faultC = 0#1 ∧
    { s0 with pLatch := true, initOkCIn := [true] }.pLatch = true ∧
    { s0 with pLatch := true, initOkCIn := [true] }.initOkCIn = true :: [] ∧ s0.cfg.suppressEqualAfterFlag = false ∧
    { s0 with q := List.replicate 7 0x201000#24 }.q.length ≠ s0.cfg.qdepth ∧
    { s0 with rState := .payloadQueued, rHeld := 0x09#8, initOkMIn := [true] }.rState = .payloadQueued ∧
    { s0 with rState := .flagQueued, rHeld := 0x09#8, initOkMIn := [true] }.rHeld = s0.cfg.code.byte .fwdFull ∧
    (0x09#8 ≠ 0xFF#8) ∧ { s0 with initOkMIn := [true] }.initOkMIn = true :: [] := by decide

theorem witness_RotationsStartWithABoundedTimer : s0.cfg.code.Legal ∧ s0.faultM = 0#4 ∧ s0.bState = .stopped := by decide

theorem witness_DrivesStartWithoutATimer : s0.cfg.code.Legal ∧ s0.faultM = 0#4 ∧ s0.bState = .stopped := by decide

theorem witness_AlignSpinsOrTakesTheShortcut :
    s0.cfg.code.Legal ∧ s0.faultM = 0#4 ∧ s0.bState = .stopped ∧ s0.beaconPin = false ∧
    { s0 with beaconPin := true }.beaconPin = true ∧ s0.cfg.spinDir = .cw ∧
    { s0 with cfg := { Config.rc1 with spinDir := .ccw } }.cfg.spinDir = .ccw := by decide

theorem witness_SearchDrivesOrTakesTheShortcut :
    s0.cfg.code.Legal ∧ s0.faultM = 0#4 ∧ s0.bState = .stopped ∧ s0.tapePin = true ∧
    { s0 with tapePin := false }.tapePin = false := by decide

theorem witness_StopAndUnknownCommandsStayStopped :
    s0.cfg.code.Legal ∧ s0.faultM = 0#4 ∧ s0.bState = .stopped ∧ (∀ k ∈ CmdKind.all, s0.cfg.code.byte k ≠ 0x07#8) := by
  decide

theorem witness_NewCommandsPreemptAndAreReposted :
    s0.faultM = 0#4 ∧ { s0 with bState := .simpleMoving }.bState ≠ .stopped := by decide

theorem witness_BeaconEndsOnlyAnAlignment :
    s0.faultM = 0#4 ∧ { s0 with bState := .aligningWithBeacon }.bState = .aligningWithBeacon ∧
    s0.bState ≠ .aligningWithBeacon ∧ halted.faultM ≠ 0#4 := by decide

theorem witness_TapeEndsOnlyASearch :
    s0.faultM = 0#4 ∧ { s0 with bState := .searchingForTape }.bState = .searchingForTape ∧
    s0.bState ≠ .searchingForTape ∧ halted.faultM ≠ 0#4 := by decide

theorem witness_TimeoutsActOnlyInTheirOwnEpoch :
    s0.faultM = 0#4 ∧ (0#12 : Epoch) = s0.tEpoch ∧ { s0 with bState := .simpleMoving }.bState ≠ .stopped ∧
    (0xFFF#12 : Epoch) ≠ s0.tEpoch ∧ s0.bState = .stopped ∧ halted.faultM ≠ 0#4 := by decide

theorem witness_DispatchRunsTheHeadEntry :
    s0.faultM = 0#4 ∧ { s0 with q := [0x201000#24] }.q = 0x201000#24 :: [] ∧
    decode s0.cfg (.entry 0x201000#24) = .ok .beaconSensor ∧ s0.q = [] ∧ halted.faultM ≠ 0#4 ∧
    { s0 with q := [0x500000#24] }.q = 0x500000#24 :: [] ∧ EntryWord.wellFormed 0x500000#24 = false := by decide

theorem witness_DispatchNeverOverflows :
    s0.faultM = 0#4 ∧ { s0 with q := List.replicate 8 0x100000#24 }.q = 0x100000#24 :: List.replicate 7 0x100000#24 ∧
    EntryWord.wellFormed 0x100000#24 = true ∧ { s0 with q := List.replicate 8 0x100000#24 }.q.length ≤ s0.cfg.qdepth := by
  decide

theorem witness_OneDispatchStartsTheCommand :
    s0.cfg.code.Legal ∧ s0.faultM = 0#4 ∧ s0.bState = .stopped ∧ s0.tActive = false ∧ CmdKind.align ≠ .stop ∧
    { s0 with q := [0x120000#24] }.q = entryOf 1 (s0.cfg.code.byte .align).toNat 0 :: [] ∧
    { s0 with q := [0x120000#24] }.q.length ≤ s0.cfg.qdepth ∧ s0.beaconPin = false ∧ s0.tapePin = true := by decide

/-- B14 and B15, and the same race of an alignment. -/
theorem witness_TimeoutAndSensorRaceEndsAlike :
    s0.faultM = 0#4 ∧ s0.q = [] ∧ 2 ≤ s0.cfg.qdepth ∧ 1 ≤ s0.cfg.tcw ∧
    { s0 with tActive := true, tCount := 1, bState := .searchingForTape }.tActive = true ∧
    { s0 with tActive := true, tCount := 1, bState := .searchingForTape }.tCount = 1 ∧
    { s0 with tActive := true, tCount := 1, bState := .searchingForTape }.bState = .searchingForTape ∧
    s0.tapePin = true ∧ { s0 with bState := .aligningWithBeacon }.bState = .aligningWithBeacon ∧ s0.beaconPin = false := by
  decide

theorem witness_NoTimeoutAfterAnEarlyExit :
    s0.faultM = 0#4 ∧ { s0 with bState := .aligningWithBeacon }.bState = .aligningWithBeacon ∧
    goes (exec .beaconSensor { s0 with bState := .aligningWithBeacon })
      (fun t => { s0 with tEpoch := 0xFFF#12 }.tEpoch == t.tEpoch + BitVec.ofNat 12 4094) = true := by decide

theorem witness_TmrTickCountsDownAndPosts :
    s0.faultM = 0#4 ∧ s0.tActive = false ∧ { s0 with tActive := true, tCount := 65535 }.tActive = true ∧
    2 ≤ { s0 with tActive := true, tCount := 65535 }.tCount ∧
    { s0 with tActive := true, tCount := 65535 }.tCount < 2 ^ s0.cfg.tcw ∧
    { s0 with tActive := true, tCount := 2 }.tCount < 2 ^ s0.cfg.tcw ∧
    { s0 with tActive := true, tCount := 1 }.tCount = 1 ∧ 1 ≤ s0.cfg.tcw ∧ halted.faultM ≠ 0#4 := by decide

theorem witness_TimerExpiresOnceOnItsLastTick :
    s0.faultM = 0#4 ∧ { s0 with tActive := true, tCount := 10 }.tActive = true ∧
    1 ≤ { s0 with tActive := true, tCount := 10 }.tCount ∧
    { s0 with tActive := true, tCount := 10 }.tCount < 2 ^ s0.cfg.tcw ∧ s0.q.length ≠ s0.cfg.qdepth ∧
    9 < { s0 with tActive := true, tCount := 10 }.tCount ∧ { s0 with tActive := true, tCount := 10 }.tCount ≤ 10 := by
  decide

theorem witness_SensorLevelsPostOnTheirEdge :
    s0.faultM = 0#4 ∧ s0.beaconPin = false ∧ { s0 with beaconPin := true }.beaconPin = true ∧ s0.tapePin = true ∧
    { s0 with tapePin := false }.tapePin = false ∧ { s0 with faultM := 1#4 }.faultM ≠ 0#4 := by decide

theorem witness_ResetMClearsTheMotionChip :
    { s0 with initOkMIn := [false] }.initOkMIn = false :: [] ∧ s0.initOkMIn = [] := by decide

theorem witness_ResetCClearsTheCommandChip :
    { s0 with initOkCIn := [true] }.initOkCIn = true :: [] ∧ s0.initOkCIn = [] := by decide

theorem witness_PowerOnIsBothResetsInEitherOrder :
    { s0 with initOkMIn := [false], initOkCIn := [true] }.initOkMIn = false :: [] ∧
    { s0 with initOkMIn := [false], initOkCIn := [true] }.initOkCIn = true :: [] := by decide

theorem witness_HaltedChipsTakeNoStepButReset :
    { s0 with faultM := 2#4 }.faultM ≠ 0#4 ∧ Instr.cnt ≠ .resetM ∧ Instr.cnt ≠ .resetC ∧ isCmdIn .cnt = false ∧
    { s0 with faultC := 1#1 }.faultC ≠ 0#1 ∧ s0.faultC = 0#1 := by decide

/-- A step that faults and one that does not. -/
theorem witness_FaultsHaveTheirCauses :
    s0.faultM = 0#4 ∧ { s0 with q := List.replicate 8 0x201000#24 }.q.length ≤ s0.cfg.qdepth ∧ Instr.beaconPin true ≠ .resetM ∧
    goes (exec (.beaconPin true) { s0 with q := List.replicate 8 0x201000#24 }) (fun t => t.faultM == 2#4) = true ∧
    goes (exec (.beaconPin true) s0) (fun t => t.faultM == 0#4) = true := by decide

theorem witness_EveryRegisterHasItsWriters :
    goes (exec .cnt s0) (fun t => t.cnt != s0.cnt) = true ∧ goes (exec (.tapePin false) s0) (fun t => t.q != s0.q) = true := by
  decide

theorem witness_MotionChipDoesNotReachTheCommandChip :
    s0.cfg = { s0 with pLatch := true }.cfg ∧ s0.rState = { s0 with pLatch := true }.rState ∧
    s0.rHeld = { s0 with pLatch := true }.rHeld ∧ s0.faultC = { s0 with pLatch := true }.faultC ∧
    s0.initOkCIn = { s0 with pLatch := true }.initOkCIn ∧ s0.drawCount = { s0 with pLatch := true }.drawCount ∧
    goes (exec .poll s0) (fun _ => true) = true ∧ goes (exec .poll { s0 with pLatch := true }) (fun _ => true) = true := by
  decide

/-- A moving state with a timer, a queued entry and a command in delivery, and a DISPATCH to take. -/
def busy : State :=
  { s0 with
    script := [0x48000000#32], bState := .aligningWithBeacon, tActive := true, tCount := 10, q := [0x201000#24],
    actL := fwd 40#8, actR := rev 40#8, rState := .payloadQueued, rHeld := 0x20#8, pLast := 0x20#8 }

theorem witness_EveryStepKeepsTheInvariant : MachineInv busy ∧ goes (step busy) (fun t => t.bState == .stopped) = true := by
  refine ⟨⟨by decide, ?_, ?_, ?_, ?_, ?_, ⟨⟨.align, by decide⟩, ⟨.align, by decide⟩⟩, ?_⟩, by decide⟩
  · unfold RegistersInRange
    decide
  · refine ⟨by decide, fun e he => ?_⟩
    obtain rfl : e = 0x201000#24 := by simpa [busy] using he
    decide
  · unfold StoppedIsQuiet
    decide
  · unfold TimerHasTicks
    decide
  · unfold EngineOrdered
    decide
  · unfold NoBadEvent
    decide

/-- A TIMEOUT posted in the present epoch, at the head of the queue, and a DISPATCH to take. -/
def expired : State := { s0 with script := [0x48000000#32], bState := .simpleMoving, q := [0x400000#24] }

theorem expired_true : ExitsTrue expired { count := 0, posted := [0] } where
  depth := by decide
  bounded := by decide
  epoch := by decide
  parallel := by decide
  quiet := by decide
  recent := by
    intro j n h
    match j with
    | 0 =>
      obtain rfl : 0 = n := by simpa using h
      decide
    | j + 1 => simp at h
  tags := by
    intro j e n he hn tag hd
    match j with
    | 0 =>
      obtain rfl : 0x400000#24 = e := by simpa [expired] using he
      obtain rfl : 0 = n := by simpa using hn
      obtain rfl : 0#12 = tag := by
        have h0 : decodeEntry 0x400000#24 = .ok (.timeout 0#12) := by decide
        rw [h0] at hd
        simpa using hd
      decide
    | j + 1 => simp at hn

theorem witness_EveryStepKeepsTheExitsTrue :
    ExitsTrue expired { count := 0, posted := [0] } ∧ expired.script = 0x48000000#32 :: [] ∧
    decodeStimulus expired.cfg.linkNoise 0x48000000#32 = .ok .dispatch ∧ goes (step expired) (fun _ => true) = true := by
  refine ⟨expired_true, ?_⟩
  decide

/-- The same TIMEOUT after one exit. -/
def stale : State := { s0 with q := [0x400000#24], tEpoch := 1#12 }

theorem stale_true : ExitsTrue stale { count := 1, posted := [0] } where
  depth := by decide
  bounded := by decide
  epoch := by decide
  parallel := by decide
  quiet := by decide
  recent := by
    intro j n h
    match j with
    | 0 =>
      obtain rfl : 0 = n := by simpa using h
      decide
    | j + 1 => simp at h
  tags := by
    intro j e n he hn tag hd
    match j with
    | 0 =>
      obtain rfl : 0x400000#24 = e := by simpa [stale] using he
      obtain rfl : 0 = n := by simpa using hn
      obtain rfl : 0#12 = tag := by
        have h0 : decodeEntry 0x400000#24 = .ok (.timeout 0#12) := by decide
        rw [h0] at hd
        simpa using hd
      decide
    | j + 1 => simp at hn

theorem witness_TimeoutsActExactlyWithoutAnExitSince :
    ExitsTrue expired { count := 0, posted := [0] } ∧ ExitsTrue stale { count := 1, posted := [0] } ∧
    expired.faultM = 0#4 ∧ stale.faultM = 0#4 ∧ expired.q = 0x400000#24 :: [] ∧ stale.q = 0x400000#24 :: [] ∧
    decodeEntry 0x400000#24 = .ok (.timeout 0#12) := by
  refine ⟨expired_true, stale_true, ?_⟩
  decide

theorem witness_PowerOnHasTheInvariant : Config.rc1.Legal := by decide

/-- Legal configurations at the ends of the ranges. -/
theorem witness_HistoriesStartTrueAtPowerOn :
    Config.rc1.Legal ∧ legal { Config.rc1 with w := 2, qdepth := 1, tol := 1427 } = true ∧
    legal { Config.rc1 with w := 31, qdepth := 4095, tol := 1 } = true := by decide

end Sys2Proof.Tests
end

/-! ## The writers of the registers (10_state.md R20 to R45, R49)

Each operation has a footprint: the groups of registers it can change. Footprints compose along a run of operations, so
that an instruction's footprint is read off the operations it calls, and lies within the groups whose rules name it. -/

namespace Sys2Proof.Machine

open Sys2Proof.Claims

/-- The registers of the block, those with the same writers together. -/
inductive RegGroup where
  | cnt | ovfPending | capVal | capPending | rc | timestamp | estimate | rState | rHeld | faultC | poller | behavior
  | timer | beaconPin | tapePin | queue | actuation | out

/-- From `s` to `t` a register of the group has changed. -/
@[simp] def RegGroup.Changed (s t : State) : RegGroup → Prop
  | .cnt => t.cnt ≠ s.cnt
  | .ovfPending => t.ovfPending ≠ s.ovfPending
  | .capVal => t.capVal ≠ s.capVal
  | .capPending => t.capPending ≠ s.capPending
  | .rc => t.rc ≠ s.rc
  | .timestamp => t.prevTs ≠ s.prevTs ∨ t.havePrev ≠ s.havePrev
  | .estimate => t.smooth ≠ s.smooth ∨ t.haveSmooth ≠ s.haveSmooth
  | .rState => t.rState ≠ s.rState
  | .rHeld => t.rHeld ≠ s.rHeld
  | .faultC => t.faultC ≠ s.faultC
  | .poller => t.pLatch ≠ s.pLatch ∨ t.pLast ≠ s.pLast
  | .behavior => t.bState ≠ s.bState ∨ t.tEpoch ≠ s.tEpoch
  | .timer => t.tActive ≠ s.tActive ∨ t.tCount ≠ s.tCount
  | .beaconPin => t.beaconPin ≠ s.beaconPin
  | .tapePin => t.tapePin ≠ s.tapePin
  | .queue => t.q ≠ s.q
  | .actuation => t.actL ≠ s.actL ∨ t.actR ≠ s.actR ∨ t.faultM ≠ s.faultM
  | .out => t.out ≠ s.out

/-- The instructions that the group's rule names. A sensor level is written by the stimulus that carries it, so that
these two groups speak of the state `t` after the instruction. -/
@[simp] def RegGroup.Writer (i : Instr) (t : State) : RegGroup → Prop
  | .cnt => i = .cnt ∨ i = .resetM
  | .ovfPending => i = .cnt ∨ i = .capIsr ∨ i = .ovfIsr ∨ i = .resetM
  | .capVal => i = .edge ∨ i = .resetM
  | .capPending => i = .edge ∨ i = .capIsr ∨ i = .resetM
  | .rc => i = .capIsr ∨ i = .ovfIsr ∨ i = .resetM
  | .timestamp => i = .capIsr ∨ i = .resetM
  | .estimate => i = .capIsr ∨ i = .resetM
  | .rState => isCmdIn i = true ∨ isPoll i = true ∨ i = .resetC
  | .rHeld => isCmdIn i = true ∨ i = .resetC
  | .faultC => i = .resetC
  | .poller => isPoll i = true ∨ isLinkByte i = true ∨ i = .resetM
  | .behavior => i = .dispatch ∨ isEntry i = true ∨ i = .resetM
  | .timer => i = .dispatch ∨ isEntry i = true ∨ i = .tmrTick ∨ i = .resetM
  | .beaconPin => i = .beaconPin t.beaconPin
  | .tapePin => i = .tapePin t.tapePin
  | .queue => canPost i = true ∨ i = .dispatch ∨ i = .resetM
  | .actuation => canPost i = true ∨ i = .dispatch ∨ i = .edge ∨ i = .resetM
  | .out => canPost i = true ∨ i = .dispatch ∨ i = .edge ∨ i = .diag

/-- From `s` to `t` only groups of `W` change, the trace at most grows, and the parameters and the script stay. -/
structure ChangesOnly (W : Set RegGroup) (s t : State) : Prop where
  cfg : t.cfg = s.cfg := by rfl
  script : t.script = s.script := by rfl
  grows : ∃ o, t.out = s.out ++ o := by exact ⟨[], (List.append_nil _).symm⟩
  within : ∀ r : RegGroup, r.Changed s t → r ∈ W

/-! ### Footprints compose -/

/-- What differs at the end has changed in the first half of the way or in the second. -/
theorem RegGroup.changed_trans {s t u : State} {r : RegGroup} (h : r.Changed s u) :
    r.Changed s t ∨ r.Changed t u := by
  by_contra hn
  cases r <;> simp_all

namespace ChangesOnly

variable {W W' : Set RegGroup} {s t u : State}

theorem refl (W : Set RegGroup) (s : State) : ChangesOnly W s s where
  within := by rintro ⟨⟩ <;> simp

theorem mono (h : ChangesOnly W s t) (hsub : ∀ r ∈ W, r ∈ W') : ChangesOnly W' s t :=
  { h with within := fun r hr => hsub r (h.within r hr) }

theorem trans (h₁ : ChangesOnly W s t) (h₂ : ChangesOnly W t u) : ChangesOnly W s u where
  cfg := h₂.cfg.trans h₁.cfg
  script := h₂.script.trans h₁.script
  grows := by
    obtain ⟨o₁, ho₁⟩ := h₁.grows
    obtain ⟨o₂, ho₂⟩ := h₂.grows
    exact ⟨o₁ ++ o₂, by rw [ho₂, ho₁, List.append_assoc]⟩
  within r hr := (RegGroup.changed_trans hr).elim (h₁.within r) (h₂.within r)

end ChangesOnly

/-! ### The footprint of each shared operation -/

section
variable (s : State)

theorem draws_changesOnly (m c : List Bool) (b : List Byte) (n : Nat) :
    ChangesOnly ∅ s { s with initOkMIn := m, initOkCIn := c, haltedByteIn := b, drawCount := n } where
  within := by rintro ⟨⟩ <;> simp

theorem emit_changesOnly (o : Output) : ChangesOnly {.out} s (emit o s) where
  grows := ⟨_, rfl⟩
  within := by rintro ⟨⟩ <;> simp

theorem raiseFault_changesOnly (f : FaultCode) : ChangesOnly {.actuation, .out} s (raiseFault f s) where
  grows := ⟨_, rfl⟩
  within := by rintro ⟨⟩ <;> simp

theorem actuate_changesOnly (a : Action) : ChangesOnly {.actuation, .out} s (actuate a s) where
  grows := ⟨_, rfl⟩
  within := by rintro ⟨⟩ <;> simp

theorem queue_changesOnly (q : List EntryWord) : ChangesOnly {.queue} s { s with q := q } where
  within := by rintro ⟨⟩ <;> simp

theorem timer_changesOnly (a : Bool) (n : Nat) : ChangesOnly {.timer} s { s with tActive := a, tCount := n } where
  within := by rintro ⟨⟩ <;> simp

theorem setLatch_changesOnly (v : Bool) : ChangesOnly {.poller} s (setLatch v s) where
  within := by rintro ⟨⟩ <;> simp

theorem setLast_changesOnly (b : Byte) : ChangesOnly {.poller} s (setLast b s) where
  within := by rintro ⟨⟩ <;> simp

theorem rState_changesOnly (l : LinkState) : ChangesOnly {.rState} s { s with rState := l } where
  within := by rintro ⟨⟩ <;> simp

theorem responder_changesOnly (l : LinkState) (b : Byte) :
    ChangesOnly {.rState, .rHeld} s { s with rState := l, rHeld := b } where
  within := by rintro ⟨⟩ <;> simp

end

/-! ### The footprint of posting, of the exchange and of the Poller -/

section
variable (s : State)

theorem post_changesOnly (e : Entry) : ChangesOnly {.queue, .actuation, .out} s (post e s) := by
  rcases post_cases e s with ⟨_, h⟩ | ⟨_, h⟩ <;> rw [h]
  · exact (raiseFault_changesOnly s _).mono (by simp)
  · exact (queue_changesOnly s _).mono (by simp)

theorem responderExchange_changesOnly : ChangesOnly {.rState} s (responderExchange s).2 := by
  rcases responderExchange_cases s with ⟨_, h⟩ | ⟨_, b, bs, n, h⟩ <;> rw [h]
  · exact rState_changesOnly s _
  · exact (draws_changesOnly s _ _ bs n).mono (by simp)

theorem forwardCommand_changesOnly (b : Byte) :
    ChangesOnly {.poller, .queue, .actuation, .out} s (forwardCommand b s) := by
  rcases forwardCommand_cases b s with ⟨_, h⟩ | ⟨_, h⟩ <;> rw [h]
  · exact ((post_changesOnly s _).mono (by simp)).trans ((setLast_changesOnly _ b).mono (by simp))
  · exact .refl _ s

theorem pollerReceive_changesOnly (b : Byte) :
    ChangesOnly {.poller, .queue, .actuation, .out} s (pollerReceive b s) := by
  have hlatch (v : Bool) (u : State) : ChangesOnly {.poller, .queue, .actuation, .out} u (setLatch v u) :=
    (setLatch_changesOnly u v).mono (by simp)
  rcases pollerReceive_cases b s with ⟨_, h⟩ | ⟨_, _, _, h⟩ | ⟨_, _, _, h⟩ | ⟨_, _, h⟩ <;> rw [h]
  · exact hlatch true s
  · exact (forwardCommand_changesOnly s b).trans (hlatch false _)
  · exact ((emit_changesOnly s _).mono (by simp)).trans (hlatch false _)
  · exact .refl _ s

/-- POLL and POLL_NOISY: an exchange, then a byte received. -/
theorem exchange_receive_changesOnly (b : Byte) :
    ChangesOnly {.rState, .poller, .queue, .actuation, .out} s (pollerReceive b (responderExchange s).2) :=
  ((responderExchange_changesOnly s).mono (by simp)).trans ((pollerReceive_changesOnly _ b).mono (by simp))

/-! ### The footprint of the handlers -/

theorem exitState_changesOnly : ChangesOnly {.behavior, .timer} s (exitState s) where
  within := by rintro ⟨⟩ <;> simp

theorem armTimer_changesOnly (d : Nat) : ChangesOnly {.timer} s (armTimer d s) where
  within := by rintro ⟨⟩ <;> simp

theorem gotoState_changesOnly (b : BehaviorState) : ChangesOnly {.behavior} s (gotoState b s) where
  within := by rintro ⟨⟩ <;> simp

theorem stopAction_changesOnly : ChangesOnly {.behavior, .timer, .actuation, .out} s (stopAction s) := by
  refine ((actuate_changesOnly s .zero).mono ?_).trans
    (((exitState_changesOnly _).mono ?_).trans ((gotoState_changesOnly _ .stopped).mono ?_)) <;> simp

/-- An action of the wheels, an armed timer and the new state: a rotation, and the two searches. -/
theorem timedAction_changesOnly (a : Action) (d : Nat) (b : BehaviorState) :
    ChangesOnly {.behavior, .timer, .actuation, .out} s (gotoState b (armTimer d (actuate a s))) := by
  refine ((actuate_changesOnly s a).mono ?_).trans
    (((armTimer_changesOnly _ d).mono ?_).trans ((gotoState_changesOnly _ b).mono ?_)) <;> simp

theorem startDrive_changesOnly (a : Action) : ChangesOnly {.behavior, .actuation, .out} s (startDrive a s) :=
  ((actuate_changesOnly s a).mono (by simp)).trans
    ((gotoState_changesOnly _ .simpleMoving).mono (by simp))

/-- The shortcut of ALIGN and SEARCH_TAPE: the state is entered and its own end posted. -/
theorem post_gotoState_changesOnly (e : Entry) (b : BehaviorState) :
    ChangesOnly {.behavior, .queue, .actuation, .out} s (post e (gotoState b s)) :=
  ((gotoState_changesOnly s b).mono (by simp)).trans ((post_changesOnly _ e).mono (by simp))

theorem startAlign_changesOnly :
    ChangesOnly {.behavior, .timer, .queue, .actuation, .out} s (startAlign s) := by
  unfold startAlign
  split
  · exact (post_gotoState_changesOnly s _ _).mono (by simp)
  · exact (timedAction_changesOnly s _ _ _).mono (by simp)

theorem startSearch_changesOnly :
    ChangesOnly {.behavior, .timer, .queue, .actuation, .out} s (startSearch s) := by
  unfold startSearch
  split
  · exact (post_gotoState_changesOnly s _ _).mono (by simp)
  · exact (timedAction_changesOnly s _ _ _).mono (by simp)

theorem startCommand_changesOnly (k : CmdKind) :
    ChangesOnly {.behavior, .timer, .queue, .actuation, .out} s (startCommand k s) := by
  cases k with
  | stop => exact (actuate_changesOnly s .zero).mono (by simp)
  | rotCw90 | rotCw45 | rotCcw90 | rotCcw45 =>
    exact (timedAction_changesOnly s _ _ .simpleMoving).mono (by simp)
  | fwdHalf | fwdFull | revHalf | revFull =>
    exact (startDrive_changesOnly s _).mono (by simp)
  | align => exact startAlign_changesOnly s
  | searchTape => exact startSearch_changesOnly s

theorem handleEntry_changesOnly (e : Entry) :
    ChangesOnly {.behavior, .timer, .queue, .actuation, .out} s (handleEntry e s) := by
  have hstop : ChangesOnly {.behavior, .timer, .queue, .actuation, .out} s (stopAction s) :=
    (stopAction_changesOnly s).mono (by simp)
  rcases handleEntry_cases e s with h | ⟨_, h⟩ | ⟨_, c, _, h⟩ | ⟨_, _, k, _, _, h⟩ <;> rw [h]
  · exact .refl _ s
  · exact hstop
  · exact hstop.trans ((post_changesOnly _ (.newCommand c)).mono (by simp))
  · exact startCommand_changesOnly s k

theorem runEntryWord_changesOnly (e : EntryWord) :
    ChangesOnly {.behavior, .timer, .queue, .actuation, .out} s (runEntryWord e s) := by
  unfold runEntryWord
  split
  · exact handleEntry_changesOnly s _
  · exact (raiseFault_changesOnly s _).mono (by simp)

theorem tickTimer_changesOnly : ChangesOnly {.timer, .queue, .actuation, .out} s (tickTimer s) := by
  rcases tickTimer_cases s with ⟨_, h⟩ | ⟨_, _, h⟩ | ⟨_, _, h⟩ <;> rw [h]
  · exact .refl _ s
  · exact (timer_changesOnly s s.tActive _).mono (by simp)
  · exact ((timer_changesOnly s false 0).mono (by simp)).trans ((post_changesOnly _ _).mono (by simp))

theorem setBeaconPin_changesOnly (v : Bool) :
    ChangesOnly {.beaconPin, .queue, .actuation, .out} s (setBeaconPin v s) := by
  have hlevel : ChangesOnly {.beaconPin, .queue, .actuation, .out} s { s with beaconPin := v } :=
    { within := by rintro ⟨⟩ <;> simp }
  unfold setBeaconPin
  split
  · exact hlevel.trans ((post_changesOnly _ _).mono (by simp))
  · exact hlevel

theorem setTapePin_changesOnly (v : Bool) :
    ChangesOnly {.tapePin, .queue, .actuation, .out} s (setTapePin v s) := by
  have hlevel : ChangesOnly {.tapePin, .queue, .actuation, .out} s { s with tapePin := v } :=
    { within := by rintro ⟨⟩ <;> simp }
  unfold setTapePin
  split
  · exact hlevel.trans ((post_changesOnly _ _).mono (by simp))
  · exact hlevel

@[simp] theorem setBeaconPin_beaconPin (v : Bool) : (setBeaconPin v s).beaconPin = v := by
  unfold setBeaconPin
  split <;> simp

@[simp] theorem setTapePin_tapePin (v : Bool) : (setTapePin v s).tapePin = v := by
  unfold setTapePin
  split <;> simp

/-! ### The footprint of the engine, of CMD_IN and of the resets -/

theorem advanceCounter_changesOnly : ChangesOnly {.cnt, .ovfPending} s (advanceCounter s) where
  within := by rintro ⟨⟩ <;> simp [advanceCounter]

theorem captureEdge_changesOnly :
    ChangesOnly {.capVal, .capPending, .actuation, .out} s (captureEdge s) := by
  unfold captureEdge
  split
  · exact (raiseFault_changesOnly s _).mono (by simp)
  · exact { within := by rintro ⟨⟩ <;> simp }

theorem attributeRollover_changesOnly :
    ChangesOnly {.capPending, .rc, .ovfPending} s (attributeRollover s) := by
  rcases attributeRollover_cases s with ⟨_, _, h⟩ | ⟨_, h⟩ <;> rw [h]
  · exact { within := by rintro ⟨⟩ <;> simp }
  · exact { within := by rintro ⟨⟩ <;> simp }

theorem takeSample_changesOnly (ts : Ticks) :
    ChangesOnly {.estimate, .queue, .actuation, .out} s (takeSample ts s) := by
  have hestimate : ChangesOnly {.estimate, .queue, .actuation, .out} s
      { s with smooth := smoothed s.haveSmooth s.smooth (sampleDelta ts s.prevTs), haveSmooth := true } :=
    { within := by rintro ⟨⟩ <;> simp }
  rcases takeSample_cases ts s with ⟨_, h⟩ | ⟨_, h⟩ <;> rw [h]
  · exact hestimate.trans ((post_changesOnly _ _).mono (by simp))
  · exact hestimate

theorem recordTimestamp_changesOnly (ts : Ticks) : ChangesOnly {.timestamp} s (recordTimestamp ts s) where
  within := by rintro ⟨⟩ <;> simp

theorem handleCapture_changesOnly :
    ChangesOnly {.capPending, .rc, .ovfPending, .estimate, .timestamp, .queue, .actuation, .out} s
      (handleCapture s) := by
  unfold handleCapture
  refine .trans ((attributeRollover_changesOnly s).mono (by simp))
    (.trans ?_ ((recordTimestamp_changesOnly _ _).mono (by simp)))
  split
  · exact (takeSample_changesOnly _ _).mono (by simp)
  · exact .refl _ _

theorem countRollover_changesOnly : ChangesOnly {.rc, .ovfPending} s (countRollover s) where
  within := by rintro ⟨⟩ <;> simp [countRollover]

theorem acceptCommand_changesOnly (k : CmdKind) : ChangesOnly {.rState, .rHeld} s (acceptCommand k s) := by
  unfold acceptCommand
  split
  · exact responder_changesOnly s _ _
  · exact .refl _ s

theorem motionReset_changesOnly (ok : Bool) :
    ChangesOnly {.beaconPin, .tapePin, .rState, .rHeld, .faultC, .out}ᶜ s (motionReset ok s) where
  within := by rintro ⟨⟩ <;> simp [motionReset]

theorem commandReset_changesOnly (ok : Bool) :
    ChangesOnly {.rState, .rHeld, .faultC} s (commandReset ok s) where
  within := by rintro ⟨⟩ <;> simp [commandReset]

theorem drawInitOkM_changesOnly : ChangesOnly ∅ s (drawInitOkM s).2 := by
  rcases drawInitOkM_cases s with ⟨_, rest, _, h⟩ | ⟨_, h⟩ <;> rw [h]
  · exact draws_changesOnly s rest _ _ _
  · exact draws_changesOnly s _ _ _ _

theorem drawInitOkC_changesOnly : ChangesOnly ∅ s (drawInitOkC s).2 := by
  rcases drawInitOkC_cases s with ⟨_, rest, _, h⟩ | ⟨_, h⟩ <;> rw [h]
  · exact draws_changesOnly s _ rest _ _
  · exact draws_changesOnly s _ _ _ _

end

/-! ### The footprint of each instruction lies within the groups that name it -/

section
variable {s t : State} {i : Instr}

/-- The seven rows of format E run the handlers. -/
theorem exec_of_isEntry (hi : isEntry i = true) (s : State) :
    ∃ e, exec i s = whileMotionRuns s (handleEntry e s) := by
  cases i with
  | newCommand c => exact ⟨.newCommand c, rfl⟩
  | beaconEngine => exact ⟨.beaconDetected .engine, rfl⟩
  | beaconSensor => exact ⟨.beaconDetected .sensor, rfl⟩
  | beaconSynthetic => exact ⟨.beaconDetected .synthetic, rfl⟩
  | tapeSensor => exact ⟨.tapeDetected .sensor, rfl⟩
  | tapeSynthetic => exact ⟨.tapeDetected .synthetic, rfl⟩
  | timeout tag => exact ⟨.timeout tag, rfl⟩
  | _ => cases hi

/-- The twelve rows of format L are received by the Poller. -/
theorem exec_of_isLinkByte (hi : isLinkByte i = true) (s : State) :
    ∃ b, exec i s = whileMotionRuns s (pollerReceive b s) := by
  cases i with
  | flag => exact ⟨Config.flagByte, rfl⟩
  | cmdStop => exact ⟨_, exec_ofKind .stop s⟩
  | cmdRotCw90 => exact ⟨_, exec_ofKind .rotCw90 s⟩
  | cmdRotCw45 => exact ⟨_, exec_ofKind .rotCw45 s⟩
  | cmdRotCcw90 => exact ⟨_, exec_ofKind .rotCcw90 s⟩
  | cmdRotCcw45 => exact ⟨_, exec_ofKind .rotCcw45 s⟩
  | cmdFwdHalf => exact ⟨_, exec_ofKind .fwdHalf s⟩
  | cmdFwdFull => exact ⟨_, exec_ofKind .fwdFull s⟩
  | cmdRevHalf => exact ⟨_, exec_ofKind .revHalf s⟩
  | cmdRevFull => exact ⟨_, exec_ofKind .revFull s⟩
  | cmdAlign => exact ⟨_, exec_ofKind .align s⟩
  | cmdSearchTape => exact ⟨_, exec_ofKind .searchTape s⟩
  | _ => cases hi

/-- A completing step of the motion chip has the footprint of its effect. -/
theorem ChangesOnly.of_whileMotionRuns {W : Set RegGroup} {u : State} (hu : ChangesOnly W s u)
    (h : whileMotionRuns s u = .next t) : ChangesOnly W s t := by
  obtain ⟨_, rfl⟩ := whileMotionRuns_next h
  exact hu

theorem entry_changesOnly_writers (hi : isEntry i = true) (h : exec i s = .next t) :
    ChangesOnly {r | r.Writer i t} s t := by
  obtain ⟨e, he⟩ := exec_of_isEntry hi s
  exact ((handleEntry_changesOnly s e).of_whileMotionRuns (he ▸ h)).mono
    (by simp [canPost, hi])

theorem linkByte_changesOnly_writers (hi : isLinkByte i = true) (h : exec i s = .next t) :
    ChangesOnly {r | r.Writer i t} s t := by
  obtain ⟨b, hb⟩ := exec_of_isLinkByte hi s
  exact ((pollerReceive_changesOnly s b).of_whileMotionRuns (hb ▸ h)).mono
    (by simp [canPost, hi])

theorem poll_changesOnly_writers {b : Byte} (hi : isPoll i = true)
    (h : whileMotionRuns s (pollerReceive b (responderExchange s).2) = .next t) :
    ChangesOnly {r | r.Writer i t} s t :=
  ((exchange_receive_changesOnly s b).of_whileMotionRuns h).mono (by simp [canPost, hi])

theorem pollNoisy_next {x : Byte} (h : execPollNoisy x s = .next t) :
    whileMotionRuns s (pollNoisyOnce x s) = .next t := by
  unfold execPollNoisy at h
  split at h
  · cases h
  · exact h

theorem cmdIn_next {k : CmdKind} (h : execCmdIn k s = .next t) : t = acceptCommand k s := by
  unfold execCmdIn at h
  split at h
  · simpa using h.symm
  · cases h

/-- A completing instruction changes only the groups that name it as a writer. -/
theorem exec_changesOnly_writers (h : exec i s = .next t) : ChangesOnly {r | r.Writer i t} s t := by
  cases i with
  | cnt => exact ((advanceCounter_changesOnly s).of_whileMotionRuns h).mono (by simp)
  | edge => exact ((captureEdge_changesOnly s).of_whileMotionRuns h).mono (by simp)
  | capIsr =>
    obtain ⟨_, _, rfl⟩ := capIsr_next h
    exact (handleCapture_changesOnly s).mono (by simp [canPost])
  | ovfIsr =>
    obtain ⟨_, _, _, rfl⟩ := ovfIsr_next h
    exact (countRollover_changesOnly s).mono (by simp)
  | diag => exact ((emit_changesOnly s _).of_whileMotionRuns h).mono (by simp)
  | cmdIn k =>
    obtain rfl := cmdIn_next h
    exact (acceptCommand_changesOnly s k).mono (by simp [isCmdIn])
  | poll => exact poll_changesOnly_writers rfl h
  | pollNoisy x => exact poll_changesOnly_writers rfl (pollNoisy_next h)
  | dispatch =>
    obtain ⟨_, e, rest, _, rfl⟩ := dispatch_next h
    exact (((queue_changesOnly s rest).mono (by simp)).trans (runEntryWord_changesOnly _ e)).mono
      (by simp)
  | tmrTick => exact ((tickTimer_changesOnly s).of_whileMotionRuns h).mono (by simp [canPost])
  | beaconPin v =>
    obtain ⟨_, rfl⟩ := whileMotionRuns_next h
    exact (setBeaconPin_changesOnly s v).mono (by simp [canPost, isPin])
  | tapePin v =>
    obtain ⟨_, rfl⟩ := whileMotionRuns_next h
    exact (setTapePin_changesOnly s v).mono (by simp [canPost, isPin])
  | resetM =>
    obtain rfl := Host.Outcome.next.inj h
    refine ((drawInitOkM_changesOnly s).mono (by simp)).trans ((motionReset_changesOnly _ _).mono ?_)
    rintro ⟨⟩ <;> simp
  | resetC =>
    obtain rfl := Host.Outcome.next.inj h
    exact ((drawInitOkC_changesOnly s).mono (by simp)).trans
      ((commandReset_changesOnly _ _).mono (by simp))
  | newCommand _ | beaconEngine | beaconSensor | beaconSynthetic | tapeSensor | tapeSynthetic | timeout _ =>
    exact entry_changesOnly_writers rfl h
  | _ => exact linkByte_changesOnly_writers rfl h

end

/-- Settles O52: the footprint of the instruction, read off group by group. -/
theorem everyRegisterHasItsWriters : Obligations.EveryRegisterHasItsWriters := by
  intro s t i h
  obtain ⟨hcfg, hscript, hgrows, hwithin⟩ := exec_changesOnly_writers h
  exact ⟨hcfg, hscript, hgrows, hwithin .cnt, hwithin .ovfPending, hwithin .capVal, hwithin .capPending, hwithin .rc,
    hwithin .timestamp, hwithin .estimate, hwithin .rState, hwithin .rHeld, hwithin .faultC, hwithin .poller,
    hwithin .behavior, hwithin .timer, hwithin .beaconPin, hwithin .tapePin, hwithin .queue, hwithin .actuation,
    hwithin .out⟩

end Sys2Proof.Machine

/-! ## The encoding (30_encoding.md)

The decoder is characterised per part: what an operand's decoder answers, then what the entry decoder, the stimulus
decoder and the link decoder answer. The two round trips and the exact lists of R91 and R95 are read off these. -/

namespace Sys2Proof

/-! ### The operands of a stimulus word (R94, R95) -/

section
variable {arg : Byte}

theorem withArgZero_eq_ok {i j : Instr} : withArgZero arg i = .ok j ↔ arg = 0#8 ∧ i = j := by
  unfold withArgZero
  split <;> simp_all

theorem withArgZero_isOk (i : Instr) : (∃ j, withArgZero arg i = .ok j) ↔ arg.toNat = 0 := by
  simp [withArgZero_eq_ok, ← BitVec.toNat_inj]

theorem withLevel_levelArg (v : Bool) (f : Bool → Instr) : withLevel (levelArg v) f = .ok (f v) := by
  cases v <;> rfl

/-- A level operand that is accepted is the operand of a level. -/
theorem withLevel_eq_ok {f : Bool → Instr} {j : Instr} (h : withLevel arg f = .ok j) :
    ∃ v, arg = levelArg v ∧ j = f v := by
  unfold withLevel at h
  split at h
  · next h0 => exact ⟨false, BitVec.eq_of_toNat_eq h0, by simpa using h.symm⟩
  · next h1 => exact ⟨true, BitVec.eq_of_toNat_eq h1, by simpa using h.symm⟩
  · cases h

theorem withLevel_isOk (f : Bool → Instr) : (∃ j, withLevel arg f = .ok j) ↔ arg.toNat ≤ 1 := by
  unfold withLevel
  split
  · simp_all
  · simp_all
  · have hout : ¬ arg.toNat ≤ 1 := by grind
    simp [hout]

theorem kindOfArg_kindArg (k : CmdKind) : kindOfArg (kindArg k) = .ok k := by
  cases k <;> rfl

/-- There are eleven kind indices, 0 to 10 (R94). -/
theorem kindOfArg_isOk : (∃ k, kindOfArg arg = .ok k) ↔ arg.toNat ≤ 10 := by
  unfold kindOfArg
  split
  case h_12 =>
    have hout : ¬ arg.toNat ≤ 10 := by grind
    simp [hout]
  all_goals simp_all

theorem kindArg_of_kindOfArg {k : CmdKind} (h : kindOfArg arg = .ok k) : kindArg k = arg := by
  unfold kindOfArg at h
  split at h
  case h_12 => cases h
  all_goals
    next hn =>
      cases h
      exact (BitVec.eq_of_toNat_eq hn).symm

end

/-! ### The stimulus word (R92 to R95) -/

/-- A stimulus word without reserved bits is known by its op's number and its arg. -/
theorem stimulusWord_eq {w : StimulusWord} {op : BitVec 5} {arg : Byte} (hzero : stimZero w = 0#19)
    (hop : (stimOp w).toNat = op.toNat) (harg : stimArg w = arg) : stimulusWord op arg = w := by
  rw [← BitVec.eq_of_toNat_eq hop, ← harg, stimulusWord_of_fields w hzero]

/-- The decoder of stimulus words ignores no bit: what it answers has this one word, under any configuration. -/
theorem encode_of_decodeStimulus {ln : Bool} {w : StimulusWord} {i : Instr} (h : decodeStimulus ln w = .ok i)
    (c : Config) : encode c i = .stimulus w := by
  unfold decodeStimulus at h
  split at h
  · cases h
  next hz =>
  have hzero : stimZero w = 0#19 := by simpa using hz
  split at h
  case h_6 hop =>
    split at h
    · next k hk =>
      cases h
      exact congrArg Encoded.stimulus (stimulusWord_eq hzero hop (kindArg_of_kindOfArg hk).symm)
    · cases h
  case h_8 hop =>
    split at h
    · cases h
      exact congrArg Encoded.stimulus (stimulusWord_eq hzero hop rfl)
    · cases h
  case h_11 hop | h_12 hop =>
    obtain ⟨v, harg, rfl⟩ := withLevel_eq_ok h
    exact congrArg Encoded.stimulus (stimulusWord_eq hzero hop harg)
  case h_15 => cases h
  all_goals
    next hop =>
      obtain ⟨harg, rfl⟩ := withArgZero_eq_ok.1 h
      exact congrArg Encoded.stimulus (stimulusWord_eq hzero hop harg)

/-- R95's list, on the fields of the word. -/
theorem StimulusWord.wellFormed_iff_fields (c : Config) (w : StimulusWord) :
    StimulusWord.wellFormed c w = true ↔
      stimZero w = 0#19 ∧ (1 ≤ (stimOp w).toNat ∧ (stimOp w).toNat ≤ 14) ∧
      (if (stimOp w).toNat = 6 then (stimArg w).toNat ≤ 10
       else if (stimOp w).toNat = 8 then c.linkNoise = true
       else if (stimOp w).toNat = 11 ∨ (stimOp w).toNat = 12 then (stimArg w).toNat ≤ 1
       else (stimArg w).toNat = 0) := by
  unfold StimulusWord.wellFormed
  simp only [← stimOp_toNat, ← stimZero_toNat, ← stimArg_toNat, ← BitVec.toNat_inj]
  grind

/-- Exactly the words that R95 does not list spell an operation. -/
theorem decodeStimulus_isOk (c : Config) (w : StimulusWord) :
    (∃ i, decodeStimulus c.linkNoise w = .ok i) ↔ StimulusWord.wellFormed c w = true := by
  rw [StimulusWord.wellFormed_iff_fields]
  unfold decodeStimulus
  split
  · simp_all
  next hz =>
  have hzero : stimZero w = 0#19 := by simpa using hz
  split
  case h_6 hop =>
    simp only [hzero, hop, ← kindOfArg_isOk]
    split <;> simp_all
  case h_8 hop => cases hn : c.linkNoise <;> simp [hzero, hop]
  case h_11 hop | h_12 hop => simp [hzero, hop, withLevel_isOk]
  case h_15 =>
    have hout : ¬ (1 ≤ (stimOp w).toNat ∧ (stimOp w).toNat ≤ 14) := by grind
    simp [hout]
  all_goals
    next hop => simp [hzero, hop, withArgZero_isOk]

/-! ### The event entry (R88 to R91) -/

theorem withTagZero_eq_ok {tag : Epoch} {e en : Entry} : withTagZero tag e = .ok en ↔ tag = 0#12 ∧ e = en := by
  unfold withTagZero
  split <;> simp_all

theorem withTagZero_isOk {tag : Epoch} (e : Entry) : (∃ en, withTagZero tag e = .ok en) ↔ tag = 0#12 := by
  simp [withTagZero_eq_ok]

/-- An entry word is known by the numbers of its fields. -/
theorem entryWord_eq {e : EntryWord} {type : BitVec 4} {arg : Byte} {tag : Epoch}
    (htype : (entryType e).toNat = type.toNat) (harg : (entryArg e).toNat = arg.toNat) (htag : entryTag e = tag) :
    entryWord type arg tag = e := by
  rw [← BitVec.eq_of_toNat_eq htype, ← BitVec.eq_of_toNat_eq harg, ← htag, entryWord_of_fields]

/-- A form that must carry tag 0 is accepted only on its own word. -/
theorem encodeEntry_of_withTagZero {e : EntryWord} {form en : Entry} {type : BitVec 4} {arg : Byte}
    (h : withTagZero (entryTag e) form = .ok en) (hform : encodeEntry form = entryWord type arg 0#12)
    (htype : (entryType e).toNat = type.toNat) (harg : (entryArg e).toNat = arg.toNat) : encodeEntry en = e := by
  obtain ⟨htag, rfl⟩ := withTagZero_eq_ok.1 h
  rw [hform, entryWord_eq htype harg htag]

theorem decodeEntry_encodeEntry (en : Entry) : decodeEntry (encodeEntry en) = .ok en := by
  cases en with
  | newCommand b => simp [encodeEntry, decodeEntry, withTagZero]
  | beaconDetected src => cases src <;> rfl
  | tapeDetected src => cases src <;> rfl
  | timeout tag => simp [encodeEntry, decodeEntry]

/-- The decoder of entries ignores no bit. -/
theorem encodeEntry_of_decodeEntry {e : EntryWord} {en : Entry} (h : decodeEntry e = .ok en) : encodeEntry en = e := by
  unfold decodeEntry at h
  split at h
  case h_1 htype => exact encodeEntry_of_withTagZero h rfl htype rfl
  case h_2 htype =>
    split at h
    case h_4 => cases h
    all_goals
      next harg => exact encodeEntry_of_withTagZero h rfl htype harg
  case h_3 htype =>
    split at h
    case h_3 => cases h
    all_goals
      next harg => exact encodeEntry_of_withTagZero h rfl htype harg
  case h_4 htype =>
    split at h
    · next harg =>
      cases h
      exact entryWord_eq htype (congrArg BitVec.toNat harg) rfl
    · cases h
  case h_5 => cases h

/-- R91's forms, on the fields of the word. -/
theorem EntryWord.wellFormed_iff_fields (e : EntryWord) :
    EntryWord.wellFormed e = true ↔
      ((entryType e).toNat = 1 ∧ entryTag e = 0#12) ∨
      ((entryType e).toNat = 2 ∧ (entryArg e).toNat ≤ 2 ∧ entryTag e = 0#12) ∨
      ((entryType e).toNat = 3 ∧ ((entryArg e).toNat = 1 ∨ (entryArg e).toNat = 2) ∧ entryTag e = 0#12) ∨
      ((entryType e).toNat = 4 ∧ entryArg e = 0#8) := by
  unfold EntryWord.wellFormed
  simp only [← entryType_toNat, ← entryArg_toNat, ← entryTag_toNat, ← BitVec.toNat_inj]
  grind

/-- Exactly the words that are none of R91's reserved forms are entries. -/
theorem decodeEntry_isOk (e : EntryWord) : (∃ en, decodeEntry e = .ok en) ↔ EntryWord.wellFormed e = true := by
  constructor
  · rintro ⟨en, h⟩
    rw [← encodeEntry_of_decodeEntry h]
    exact Machine.encodeEntry_wellFormed en
  · rw [EntryWord.wellFormed_iff_fields]
    unfold decodeEntry
    rintro (⟨htype, htag⟩ | ⟨htype, harg, htag⟩ | ⟨htype, harg | harg, htag⟩ | ⟨htype, harg⟩)
    · simp [htype, htag, withTagZero_isOk]
    · obtain h | h | h : (entryArg e).toNat = 0 ∨ (entryArg e).toNat = 1 ∨ (entryArg e).toNat = 2 := by omega
      all_goals simp [htype, h, htag, withTagZero_isOk]
    · simp [htype, harg, htag, withTagZero_isOk]
    · simp [htype, harg, htag, withTagZero_isOk]
    · simp [htype, harg]

theorem encode_ofEntry (c : Config) (en : Entry) : encode c (.ofEntry en) = .entry (encodeEntry en) := by
  cases en with
  | newCommand b => rfl
  | beaconDetected src => cases src <;> rfl
  | tapeDetected src => cases src <;> rfl
  | timeout tag => rfl

/-! ### The link byte (R81 to R85) -/

theorem CmdKind.mem_all (k : CmdKind) : k ∈ CmdKind.all := by
  cases k <;> decide

/-- R83 (a): a legal code table gives no two kinds one byte. -/
theorem CodeTable.Legal.byte_injective {t : CodeTable} (h : t.Legal) : Function.Injective t.byte := by
  intro j k hjk
  obtain ⟨hnodup, _, _⟩ := h
  exact List.inj_on_of_nodup_map hnodup (CmdKind.mem_all j) (CmdKind.mem_all k) hjk

/-- R83 (b): a legal code table gives no kind the flag's byte. -/
theorem CodeTable.Legal.byte_ne_flag {t : CodeTable} (h : t.Legal) (k : CmdKind) : t.byte k ≠ Config.flagByte := by
  obtain ⟨_, hflag, _⟩ := h
  exact hflag k (CmdKind.mem_all k)

/-- A byte other than the flag that some kind has is classified a command. -/
theorem classify_isCmd (t : CodeTable) (b : Byte) (hflag : b ≠ Config.flagByte) :
    (∃ k, classify t b = .cmd k) ↔ ∃ k, t.byte k = b := by
  constructor
  · rintro ⟨k, hk⟩
    exact ⟨k, classify_cmd_byte t b k hk⟩
  · rintro ⟨k, hk⟩
    unfold classify
    rw [if_neg hflag]
    split
    · next k' _ => exact ⟨k', rfl⟩
    · next hnone => exact absurd hk (by simpa using List.find?_eq_none.1 hnone k (CmdKind.mem_all k))

theorem classify_byte {t : CodeTable} (h : t.Legal) (k : CmdKind) : classify t (t.byte k) = .cmd k := by
  obtain ⟨k', hk'⟩ := (classify_isCmd t (t.byte k) (h.byte_ne_flag k)).2 ⟨k, rfl⟩
  rw [hk', h.byte_injective (classify_cmd_byte t _ k' hk')]

theorem classify_invalid {t : CodeTable} {b : Byte} (hflag : b ≠ Config.flagByte) (hcode : ∀ k, t.byte k ≠ b) :
    classify t b = .invalid := by
  cases hc : classify t b with
  | flag => exact absurd ((classify_flag_iff t b).1 hc) hflag
  | cmd k => exact absurd (classify_cmd_byte t b k hc) (hcode k)
  | invalid => rfl

theorem encode_ofKind (c : Config) (k : CmdKind) : encode c (.ofKind k) = .link (c.code.byte k) := by
  cases k <;> rfl

/-- The decoder of link bytes answers an instruction whose byte it was given, under any code table. -/
theorem encode_of_decodeLink {c : Config} {b : Byte} {i : Instr} (h : decodeLink c.code b = .ok i) :
    encode c i = .link b := by
  unfold decodeLink at h
  split at h
  · next hflag =>
    cases h
    rw [(classify_flag_iff _ _).1 hflag]
    rfl
  · next k hk =>
    cases h
    rw [encode_ofKind, classify_cmd_byte _ _ _ hk]
  · cases h

/-! ### The round trips -/

/-- An entry is what the decoder reads from its own word. -/
theorem decode_encode_ofEntry (c : Config) (en : Entry) : decode c (encode c (.ofEntry en)) = .ok (.ofEntry en) := by
  simp [encode_ofEntry, decode, decodeEntry_encodeEntry]

/-- A command byte is what the decoder reads from its own code, under a legal table. -/
theorem decode_encode_ofKind {c : Config} (h : c.code.Legal) (k : CmdKind) :
    decode c (encode c (.ofKind k)) = .ok (.ofKind k) := by
  simp [encode_ofKind, decode, decodeLink, classify_byte h]

/-- Settles O1: case by case along the three formats. -/
theorem decodingAnEncodedInstructionGivesItBack : Obligations.DecodingAnEncodedInstructionGivesItBack := by
  intro c i hcode hwf
  cases i with
  | cnt | edge | capIsr | ovfIsr | diag | poll | dispatch | tmrTick | resetM | resetC =>
    simp [encode, decode, decodeStimulus, withArgZero]
  | cmdIn k => simp [encode, decode, decodeStimulus, kindOfArg_kindArg]
  | pollNoisy x =>
    have hnoise : c.linkNoise = true := hwf
    simp [encode, decode, decodeStimulus, hnoise]
  | beaconPin v | tapePin v => simp [encode, decode, decodeStimulus, withLevel_levelArg]
  | newCommand b => exact decode_encode_ofEntry c (.newCommand b)
  | beaconEngine => exact decode_encode_ofEntry c (.beaconDetected .engine)
  | beaconSensor => exact decode_encode_ofEntry c (.beaconDetected .sensor)
  | beaconSynthetic => exact decode_encode_ofEntry c (.beaconDetected .synthetic)
  | tapeSensor => exact decode_encode_ofEntry c (.tapeDetected .sensor)
  | tapeSynthetic => exact decode_encode_ofEntry c (.tapeDetected .synthetic)
  | timeout tag => exact decode_encode_ofEntry c (.timeout tag)
  | flag => simp [encode, decode, decodeLink, (classify_flag_iff c.code _).2 rfl]
  | cmdStop => exact decode_encode_ofKind hcode .stop
  | cmdRotCw90 => exact decode_encode_ofKind hcode .rotCw90
  | cmdRotCw45 => exact decode_encode_ofKind hcode .rotCw45
  | cmdRotCcw90 => exact decode_encode_ofKind hcode .rotCcw90
  | cmdRotCcw45 => exact decode_encode_ofKind hcode .rotCcw45
  | cmdFwdHalf => exact decode_encode_ofKind hcode .fwdHalf
  | cmdFwdFull => exact decode_encode_ofKind hcode .fwdFull
  | cmdRevHalf => exact decode_encode_ofKind hcode .revHalf
  | cmdRevFull => exact decode_encode_ofKind hcode .revFull
  | cmdAlign => exact decode_encode_ofKind hcode .align
  | cmdSearchTape => exact decode_encode_ofKind hcode .searchTape

/-- Settles O2: each format's decoder ignores no bit. -/
theorem encodingADecodedWordGivesItBack : Obligations.EncodingADecodedWordGivesItBack := by
  intro c e i h
  cases e with
  | stimulus w => exact encode_of_decodeStimulus h c
  | entry e =>
    simp only [decode] at h
    split at h
    · next en hen =>
      cases h
      rw [encode_ofEntry, encodeEntry_of_decodeEntry hen]
    · cases h
  | link b => exact encode_of_decodeLink h

/-- Settles O5, from what a legal table excludes: one byte for two kinds, and the flag's byte for a kind. -/
theorem linkBytesAreClassified : Obligations.LinkBytesAreClassified := by
  intro t b hlegal
  have hflag : classify t 0xFF#8 = .flag := (classify_flag_iff t _).2 rfl
  refine ⟨hflag, fun k hk => ?_, ?_, classify_invalid⟩
  · rw [hflag] at hk
    cases hk
  · rintro k rfl
    exact classify_byte hlegal k

/-- Settles O6: the twelve words are fixed, so the decoder is run on them. -/
theorem writtenOutWordsDecode : Obligations.WrittenOutWordsDecode := by
  unfold Obligations.WrittenOutWordsDecode
  decide

end Sys2Proof

/-! ### Words on which a step is taken, and words on which none is (R91, R95, R96) -/

namespace Sys2Proof.Machine

open Sys2Proof.Claims

section
variable {s : State} {w : StimulusWord} {rest : List StimulusWord}

theorem step_of_decodes {i : Instr} (hs : s.script = w :: rest) (hi : decodeStimulus s.cfg.linkNoise w = .ok i) :
    step s = exec i { s with script := rest } := by
  simp [step, fetchStimulus, hs, hi]

theorem step_of_illFormed {why : DecodeError} (hs : s.script = w :: rest)
    (he : decodeStimulus s.cfg.linkNoise w = .error why) : step s = .refused (.illFormedWord why) := by
  simp [step, fetchStimulus, hs, he]

end

theorem raiseFault_badEvent (s : State) : raiseFault .badEvent s = faulted 8#4 s := rfl

/-- DISPATCH on a running motion chip runs the entry at the head of the queue. -/
theorem exec_dispatch_of_running {s : State} {e : EntryWord} {rest : List EntryWord} (hrun : s.faultM = 0#4)
    (hq : s.q = e :: rest) : exec .dispatch s = .next (runEntryWord e { s with q := rest }) := by
  simp [exec, execDispatch, dequeue, hq, hrun]

/-- A reserved word runs no handler (60_exceptions.md R228). -/
theorem runEntryWord_of_reserved {e : EntryWord} (he : ∀ en, decodeEntry e ≠ .ok en) (s : State) :
    runEntryWord e s = raiseFault .badEvent s := by
  unfold runEntryWord
  split
  · next en hen => exact absurd hen (he en)
  · rfl

/-- Settles O3: where the decoder answers no operation it names its reason, and the step refuses with it. -/
theorem illFormedStimulusWordsAreRefused : Obligations.IllFormedStimulusWordsAreRefused := by
  intro s w rest
  have hiff := decodeStimulus_isOk s.cfg w
  refine ⟨hiff, fun hs hwf => ?_⟩
  cases hd : decodeStimulus s.cfg.linkNoise w with
  | ok i => simp [hiff.1 ⟨i, hd⟩] at hwf
  | error why => exact ⟨why, step_of_illFormed hs hd⟩

/-- Settles O4: DISPATCH hands the head to the decoder, which answers no entry. -/
theorem reservedEntriesRaiseBadEvent : Obligations.ReservedEntriesRaiseBadEvent := by
  intro s e rest
  have hiff := decodeEntry_isOk e
  refine ⟨hiff, fun hrun hq hwf => ?_⟩
  have hreserved : ∀ en, decodeEntry e ≠ .ok en := fun en hen => by simp [hiff.1 ⟨en, hen⟩] at hwf
  rw [exec_dispatch_of_running hrun hq, runEntryWord_of_reserved hreserved, raiseFault_badEvent]

/-- Settles O7, by the rule of a step on a word that decodes. -/
theorem stepRunsTheDecodedStimulus : Obligations.StepRunsTheDecodedStimulus :=
  fun _ _ _ _ hs hi => step_of_decodes hs hi

end Sys2Proof.Machine

/-! ## The Beacon Timing Engine (40_beacon_timing.md)

The engine's operations on numbers; when each instruction is enabled and its effect; then the true counts of R123:
a pending capture lies in the counter's current turn or in the one before, and the rollover attribution tells which. -/

namespace Sys2Proof.Machine

open Sys2Proof.Claims

/-! ### The operands on numbers (R114 to R120) -/

section
variable {cfg : Config}

theorem sampleDelta_toNat (ts prevTs : Ticks) :
    (sampleDelta ts prevTs).toNat = (ts.toNat + 2 ^ 32 - prevTs.toNat) % 2 ^ 32 := by
  have hprev := prevTs.isLt
  rw [sampleDelta, BitVec.toNat_sub]
  congr 1
  omega

/-- 32 bits hold the smoothed interval: nothing is cut off (R126). -/
theorem smoothed_toNat (later : Bool) (smooth delta : Ticks) :
    (smoothed later smooth delta).toNat =
      if later = true then (delta.toNat + 5 * smooth.toNat) / 6 else delta.toNat := by
  have hdelta := delta.isLt
  have hsmooth := smooth.isLt
  cases later with
  | false => simp [smoothed]
  | true =>
    simp only [smoothed, if_true, BitVec.toNat_ofNat]
    omega

theorem smoothed_eq_ofNat (later : Bool) (smooth delta : Ticks) :
    smoothed later smooth delta =
      BitVec.ofNat 32 (if later = true then (delta.toNat + 5 * smooth.toNat) / 6 else delta.toNat) := by
  rw [← smoothed_toNat, BitVec.ofNat_toNat, BitVec.setWidth_eq]

theorem freq_eq (cfg : Config) (s : Ticks) :
    freq cfg s = if s.toNat = 0 then 0 else cfg.srcClk / cfg.prescale / (s.toNat * cfg.capDiv) := by
  simp only [freq, Config.fEff, ← BitVec.toNat_inj, BitVec.toNat_ofNat, Nat.zero_mod]

/-- The strict band of R117, free of the absolute value. -/
theorem qualifies_iff (cfg : Config) (s : Ticks) :
    qualifies cfg s = true ↔ 1427 < freq cfg s + cfg.tol ∧ freq cfg s < 1427 + cfg.tol := by
  unfold qualifies Config.fTarget
  rw [decide_eq_true_eq]
  omega

/-- An interval of 0 has frequency 0, which lies below every band (R124). -/
theorem not_qualifies_zero (htol : cfg.tol ≤ 1427) : qualifies cfg 0#32 = false := by
  rw [← Bool.not_eq_true, qualifies_iff, freq_eq]
  simp [htol]

theorem two_pow_rcw_mul_two_pow_w (hw : cfg.w < 32) : 2 ^ cfg.rcw * 2 ^ cfg.w = 2 ^ 32 := by
  rw [← Nat.pow_add, Config.rcw]
  congr 1
  omega

/-- Of registers in their widths nothing is cut off (R122). -/
theorem composeTimestamp_toNat_of_lt {rc c : Nat} (hw : cfg.w < 32) (hrc : rc < 2 ^ cfg.rcw) (hc : c < 2 ^ cfg.w) :
    (composeTimestamp cfg rc c).toNat = rc * 2 ^ cfg.w + c := by
  have hlt : rc * 2 ^ cfg.w + c < 2 ^ cfg.rcw * 2 ^ cfg.w :=
    calc rc * 2 ^ cfg.w + c < rc * 2 ^ cfg.w + 2 ^ cfg.w := by omega
      _ = (rc + 1) * 2 ^ cfg.w := (Nat.succ_mul _ _).symm
      _ ≤ 2 ^ cfg.rcw * 2 ^ cfg.w := Nat.mul_le_mul_right _ hrc
  rw [composeTimestamp_toNat hc, Nat.mod_eq_of_lt (two_pow_rcw_mul_two_pow_w hw ▸ hlt)]

theorem nextRollover_lt (cfg : Config) (rc : Nat) : nextRollover cfg rc < 2 ^ cfg.rcw :=
  Nat.mod_lt _ (by positivity)

end

/-! ### Posting and raising, spelled out (20_memory.md R62, 60_exceptions.md R225) -/

theorem raiseFault_captureOverrun (s : State) : raiseFault .captureOverrun s = faulted 4#4 s := rfl

theorem post_eq_posted (e : Entry) (s : State) : post e s = posted (encodeEntry e) s := rfl

/-- What is posted does not depend on the engine's registers, so that the timestamp can be recorded before. -/
theorem recordTimestamp_post (ts : Ticks) (e : Entry) (s : State) :
    recordTimestamp ts (post e s) = post e (recordTimestamp ts s) := by
  rcases post_cases e s with ⟨hfull, h⟩ | ⟨hroom, h⟩
  · rw [h, post_of_full e (by simpa using hfull)]
    rfl
  · rw [h, post_of_room e (by simpa using hroom)]
    rfl

/-! ### EDGE (R111) -/

theorem captureEdge_of_free {s : State} (hcap : s.capPending = false) :
    captureEdge s = { s with capVal := s.cnt, capPending := true } := by
  simp [captureEdge, hcap]

theorem captureEdge_of_pending {s : State} (hcap : s.capPending = true) : captureEdge s = faulted 4#4 s := by
  simp [captureEdge, hcap, raiseFault_captureOverrun]

/-! ### What CAP_ISR leaves in the engine's registers (R112 to R118) -/

section
variable (s : State) (ts : Ticks)

@[simp] theorem takeSample_rc : (takeSample ts s).rc = s.rc := by
  rcases takeSample_cases ts s with ⟨_, h⟩ | ⟨_, h⟩ <;> simp [h]

@[simp] theorem takeSample_ovfPending : (takeSample ts s).ovfPending = s.ovfPending := by
  rcases takeSample_cases ts s with ⟨_, h⟩ | ⟨_, h⟩ <;> simp [h]

@[simp] theorem takeSample_capPending : (takeSample ts s).capPending = s.capPending := by
  rcases takeSample_cases ts s with ⟨_, h⟩ | ⟨_, h⟩ <;> simp [h]

@[simp] theorem takeSample_smooth :
    (takeSample ts s).smooth = smoothed s.haveSmooth s.smooth (sampleDelta ts s.prevTs) := by
  rcases takeSample_cases ts s with ⟨_, h⟩ | ⟨_, h⟩ <;> simp [h]

/-- R112's attribution as one update, its condition on numbers. -/
theorem attributeRollover_eq :
    attributeRollover s =
      { s with
        capPending := false
        rc := if s.ovfPending = true ∧ s.capVal < s.cfg.half then nextRollover s.cfg s.rc else s.rc
        ovfPending := if s.ovfPending = true ∧ s.capVal < s.cfg.half then false else s.ovfPending } := by
  rcases attributeRollover_cases s with ⟨hovf, hlow, h⟩ | ⟨hhigh, h⟩
  · simp [h, hovf, hlow]
  · have hno : ¬ (s.ovfPending = true ∧ s.capVal < s.cfg.half) := fun hc => absurd (hhigh hc.1) (Nat.not_le.2 hc.2)
    simp [h, hno]

@[simp] theorem attributeRollover_cfg : (attributeRollover s).cfg = s.cfg := by rw [attributeRollover_eq]
@[simp] theorem attributeRollover_capVal : (attributeRollover s).capVal = s.capVal := by rw [attributeRollover_eq]
@[simp] theorem attributeRollover_prevTs : (attributeRollover s).prevTs = s.prevTs := by rw [attributeRollover_eq]
@[simp] theorem attributeRollover_havePrev : (attributeRollover s).havePrev = s.havePrev := by rw [attributeRollover_eq]
@[simp] theorem attributeRollover_smooth : (attributeRollover s).smooth = s.smooth := by rw [attributeRollover_eq]
@[simp] theorem attributeRollover_haveSmooth : (attributeRollover s).haveSmooth = s.haveSmooth := by
  rw [attributeRollover_eq]
@[simp] theorem attributeRollover_q : (attributeRollover s).q = s.q := by rw [attributeRollover_eq]
@[simp] theorem attributeRollover_faultM : (attributeRollover s).faultM = s.faultM := by rw [attributeRollover_eq]
@[simp] theorem attributeRollover_out : (attributeRollover s).out = s.out := by rw [attributeRollover_eq]
@[simp] theorem attributeRollover_capPending : (attributeRollover s).capPending = false := by rw [attributeRollover_eq]

theorem attributeRollover_rc_lt (hrc : s.rc < 2 ^ s.cfg.rcw) : (attributeRollover s).rc < 2 ^ s.cfg.rcw := by
  rcases attributeRollover_cases s with ⟨_, _, h⟩ | ⟨_, h⟩ <;> rw [h]
  · exact nextRollover_lt _ _
  · exact hrc

/-- The timestamp that CAP_ISR composes (R114). -/
def captureTimestamp (s : State) : Ticks := composeTimestamp s.cfg (attributeRollover s).rc s.capVal

/-- What CAP_ISR does: without a predecessor it records the timestamp, with one it takes a sample first (R115, R118). -/
theorem handleCapture_cases :
    (s.havePrev = false ∧ handleCapture s = recordTimestamp (captureTimestamp s) (attributeRollover s)) ∨
    (s.havePrev = true ∧ handleCapture s =
      recordTimestamp (captureTimestamp s) (takeSample (captureTimestamp s) (attributeRollover s))) := by
  cases hprev : s.havePrev <;> simp [handleCapture, captureTimestamp, hprev]

@[simp] theorem handleCapture_rc : (handleCapture s).rc = (attributeRollover s).rc := by
  rcases handleCapture_cases s with ⟨_, h⟩ | ⟨_, h⟩ <;> simp [h]

@[simp] theorem handleCapture_ovfPending : (handleCapture s).ovfPending = (attributeRollover s).ovfPending := by
  rcases handleCapture_cases s with ⟨_, h⟩ | ⟨_, h⟩ <;> simp [h]

@[simp] theorem handleCapture_capPending : (handleCapture s).capPending = false := by
  rcases handleCapture_cases s with ⟨_, h⟩ | ⟨_, h⟩ <;> simp [h]

@[simp] theorem handleCapture_prevTs : (handleCapture s).prevTs = captureTimestamp s := by
  rcases handleCapture_cases s with ⟨_, h⟩ | ⟨_, h⟩ <;> simp [h]

/-- The interval after a capture that has a predecessor (R115, R116). -/
theorem handleCapture_smooth {s : State} (hprev : s.havePrev = true) :
    (handleCapture s).smooth = smoothed s.haveSmooth s.smooth (sampleDelta (captureTimestamp s) s.prevTs) := by
  rcases handleCapture_cases s with ⟨hno, _⟩ | ⟨_, h⟩
  · simp [hno] at hprev
  · simp [h]

end

/-! ### Enabling (R112, R119) -/

section
variable {s : State}

theorem exec_capIsr_of_pending (hrun : s.faultM = 0#4) (hcap : s.capPending = true) :
    exec .capIsr s = .next (handleCapture s) := by
  simp [exec, execCapIsr, hrun, hcap]

theorem exec_diag_of_running (hrun : s.faultM = 0#4) :
    exec .diag s = .next { s with out := s.out ++ [.diagReport (freq s.cfg s.smooth) s.smooth] } :=
  whileMotionRuns_of_running hrun _

end

/-! ### The true counts (R123)

A count `n` splits into its turn `n / M` and the counter's value `n % M`. While a capture is pending its edge lies fewer
than half a turn back. -/

section
variable {M H e n : Nat}

/-- A count within a turn leaves the turn, the count of the wrap starts the next (R110). -/
theorem turn_succ (n M : Nat) : (n + 1) / M = n / M + if (n + 1) % M = 0 then 1 else 0 := by
  simp only [Nat.succ_div, Nat.dvd_iff_mod_eq_zero]

/-- No wrap comes within half a turn after an edge in the lower half. -/
theorem turn_eq_of_lower (hM : M = 2 * H) (hpast : e ≤ n) (hrecent : n - e < H) (he : e % M < H) :
    e / M = n / M := by
  refine le_antisymm (Nat.div_le_div_right hpast) (Nat.not_lt.1 fun hlt => ?_)
  have hturn : M * (e / M) + M ≤ M * (n / M) := Nat.mul_le_mul_left M hlt
  have hdivn := Nat.div_add_mod n M
  have hdive := Nat.div_add_mod e M
  omega

/-- Exactly one wrap lies between an edge in the upper half and a count in the lower half. -/
theorem turn_succ_of_upper (hM : M = 2 * H) (hpast : e ≤ n) (hrecent : n - e < H) (hn : n % M < H) (he : H ≤ e % M) :
    e / M + 1 = n / M := by
  have hdivn := Nat.div_add_mod n M
  have hdive := Nat.div_add_mod e M
  have hemod : e % M < M := Nat.mod_lt _ (by omega)
  refine le_antisymm (Nat.lt_of_le_of_ne (Nat.div_le_div_right hpast) fun heq => ?_) (Nat.not_lt.1 fun hlt => ?_)
  · rw [heq] at hdive
    omega
  · have hturns : M * (e / M) + M + M ≤ M * (n / M) := Nat.mul_le_mul_left M hlt
    omega

end

theorem two_pow_w_eq {cfg : Config} (hw : 2 ≤ cfg.w) : 2 ^ cfg.w = 2 * cfg.half := by
  rw [Config.half, ← Nat.pow_succ']
  congr 1
  omega

/-- An instruction with no footprint in the registers of the count keeps their history. -/
theorem CountsTrue.frame {s t : State} {g : Counts} (hg : CountsTrue s g)
    (h : ChangesOnly {.cnt, .ovfPending, .capVal, .capPending, .rc, .timestamp}ᶜ s t) : CountsTrue t g := by
  have hsame (r : RegGroup) (hr : r ∈ ({.cnt, .ovfPending, .capVal, .capPending, .rc, .timestamp} : Set RegGroup)) :
      ¬ r.Changed s t := fun hc => h.within r hc hr
  have hcnt : t.cnt = s.cnt := by simpa using hsame .cnt (by simp)
  have hovf : t.ovfPending = s.ovfPending := by simpa using hsame .ovfPending (by simp)
  have hval : t.capVal = s.capVal := by simpa using hsame .capVal (by simp)
  have hcap : t.capPending = s.capPending := by simpa using hsame .capPending (by simp)
  have hrc : t.rc = s.rc := by simpa using hsame .rc (by simp)
  obtain ⟨hts, hprev⟩ : t.prevTs = s.prevTs ∧ t.havePrev = s.havePrev := by simpa using hsame .timestamp (by simp)
  obtain ⟨width, counter, rollovers, rcWidth, wrapRecent, edgePast, captured, previous⟩ := hg
  constructor <;> simpa only [h.cfg, hcnt, hovf, hval, hcap, hrc, hts, hprev]

/-- The instructions outside the engine, RESET_M apart, have no such footprint. -/
theorem CountsTrue.frame_of_not_engine {s t : State} {i : Instr} {g : Counts} (hg : CountsTrue s g)
    (h : exec i s = .next t) (hi : i ∉ [.cnt, .edge, .capIsr, .ovfIsr, .resetM]) : CountsTrue t g := by
  simp only [List.mem_cons, List.not_mem_nil, or_false, not_or] at hi
  refine hg.frame ((exec_changesOnly_writers h).mono ?_)
  rintro ⟨⟩ <;> simp [hi]

section
variable {s : State} {g : Counts}

/-- With no wrap pending the rollover count is the count's turn. -/
theorem CountsTrue.rc_of_no_wrap (hg : CountsTrue s g) (hovf : s.ovfPending = false) :
    s.rc = g.now / 2 ^ s.cfg.w % 2 ^ s.cfg.rcw := by
  have hroll := hg.rollovers
  rwa [hovf, if_neg (by simp), Nat.add_zero, Nat.mod_eq_of_lt hg.rcWidth] at hroll

/-- With a wrap pending it is counted next: by OVF_ISR, or by CAP_ISR where the capture follows it. -/
theorem CountsTrue.nextRollover_of_wrap (hg : CountsTrue s g) (hovf : s.ovfPending = true) :
    nextRollover s.cfg s.rc = g.now / 2 ^ s.cfg.w % 2 ^ s.cfg.rcw := by
  have hroll := hg.rollovers
  rwa [hovf, if_pos rfl] at hroll

/-- The rollover count after the attribution is the turn of the captured edge (R113, R123). -/
theorem CountsTrue.attributed_rc (hg : CountsTrue s g) (hcap : s.capPending = true) :
    (attributeRollover s).rc = g.edge / 2 ^ s.cfg.w % 2 ^ s.cfg.rcw := by
  obtain ⟨hval, hrecent, hturn⟩ := hg.captured hcap
  have hM := two_pow_w_eq hg.width.1
  have hlow (hovf : s.ovfPending = true) : g.now % 2 ^ s.cfg.w < s.cfg.half := hg.counter ▸ hg.wrapRecent hovf
  rcases attributeRollover_cases s with ⟨hovf, hlower, h⟩ | ⟨hupper, h⟩ <;> rw [h]
  · rw [turn_eq_of_lower hM hg.edgePast.2 hrecent (hval ▸ hlower)]
    exact hg.nextRollover_of_wrap hovf
  · cases hovf : s.ovfPending with
    | false => rw [hturn hovf, hg.rc_of_no_wrap hovf]
    | true =>
      have hsucc := turn_succ_of_upper hM hg.edgePast.2 hrecent (hlow hovf) (hval ▸ hupper hovf)
      have hnext : (s.rc + 1) % 2 ^ s.cfg.rcw = (g.edge / 2 ^ s.cfg.w + 1) % 2 ^ s.cfg.rcw :=
        hsucc ▸ hg.nextRollover_of_wrap hovf
      have hrc : s.rc % 2 ^ s.cfg.rcw = _ := Nat.ModEq.add_right_cancel' 1 hnext
      rwa [Nat.mod_eq_of_lt hg.rcWidth] at hrc

/-- The composed timestamp is the true count at the edge (R123). -/
theorem CountsTrue.captureTimestamp_toNat (hg : CountsTrue s g) (hcap : s.capPending = true) :
    (captureTimestamp s).toNat = g.edge % 2 ^ 32 := by
  have hval := (hg.captured hcap).1
  have hlt : s.capVal < 2 ^ s.cfg.w := hval ▸ Nat.mod_lt _ (by positivity)
  calc (captureTimestamp s).toNat
      = (attributeRollover s).rc * 2 ^ s.cfg.w + s.capVal :=
        composeTimestamp_toNat_of_lt hg.width.2 (attributeRollover_rc_lt s hg.rcWidth) hlt
    _ = g.edge % 2 ^ s.cfg.w + 2 ^ s.cfg.w * (g.edge / 2 ^ s.cfg.w % 2 ^ s.cfg.rcw) := by
        rw [hg.attributed_rc hcap, hval, Nat.add_comm, Nat.mul_comm]
    _ = g.edge % 2 ^ 32 := by
        rw [← Nat.mod_mul, Nat.mul_comm, two_pow_rcw_mul_two_pow_w hg.width.2]

/-! ### Each instruction of the engine keeps the counts true -/

/-- CNT: where it wraps no wrap was pending, or the pending one would be half a turn old (R266). -/
theorem CountsTrue.after_cnt (hg : CountsTrue s g) (hprompt : Prompt s .cnt g) :
    CountsTrue (advanceCounter s) { g with now := g.now + 1 } := by
  obtain ⟨hedge, hwrap⟩ := hprompt rfl
  obtain ⟨hfirst, hpast⟩ := hg.edgePast
  have hM := two_pow_w_eq hg.width.1
  have hcnt : (s.cnt + 1) % 2 ^ s.cfg.w = (g.now + 1) % 2 ^ s.cfg.w := by rw [hg.counter, Nat.mod_add_mod]
  have hnowrap (hovf : s.ovfPending = true) : (s.cnt + 1) % 2 ^ s.cfg.w = s.cnt + 1 :=
    Nat.mod_eq_of_lt (by have := hwrap hovf; omega)
  have hturn := turn_succ g.now (2 ^ s.cfg.w)
  refine
    { width := hg.width, counter := hcnt, rcWidth := hg.rcWidth, previous := hg.previous
      edgePast := ⟨hfirst, Nat.le_succ_of_le hpast⟩
      rollovers := ?_, wrapRecent := ?_, captured := ?_ }
  · simp only [advanceCounter, hturn, ← hcnt]
    split
    · next hzero =>
      have hovf : s.ovfPending = false := by
        by_contra hovf
        have := hnowrap (by simpa using hovf)
        omega
      rw [if_pos rfl, hg.rc_of_no_wrap hovf, Nat.mod_add_mod]
    · exact hg.rollovers
  · simp only [advanceCounter]
    split
    · next hzero => exact fun _ => hzero ▸ Nat.two_pow_pos _
    · exact fun hovf => (hnowrap hovf).symm ▸ hwrap hovf
  · intro hcap
    obtain ⟨hval, _, hsame⟩ := hg.captured hcap
    refine ⟨hval, hedge hcap, ?_⟩
    simp only [advanceCounter, hturn, ← hcnt]
    split
    · simp
    · exact hsame

/-- EDGE: a free latch takes the present count, a full one keeps its edge (R111). -/
theorem CountsTrue.after_edge (hg : CountsTrue s g) :
    CountsTrue (captureEdge s) (g.after s .edge) := by
  cases hcap : s.capPending with
  | true =>
    rw [captureEdge_of_pending hcap, Counts.after, if_pos hcap]
    exact hg.frame ((raiseFault_changesOnly s .captureOverrun).mono (by simp))
  | false =>
    rw [captureEdge_of_free hcap, Counts.after, if_neg (by simp [hcap])]
    obtain ⟨hfirst, hpast⟩ := hg.edgePast
    exact
      { width := hg.width, counter := hg.counter, rollovers := hg.rollovers, rcWidth := hg.rcWidth
        wrapRecent := hg.wrapRecent, previous := hg.previous
        edgePast := ⟨hfirst.trans hpast, le_rfl⟩
        captured := fun _ => ⟨hg.counter, by simp [Config.half], fun _ => rfl⟩ }

/-- OVF_ISR: the pending wrap is counted once (R119). -/
theorem CountsTrue.after_ovfIsr (hg : CountsTrue s g) (hovf : s.ovfPending = true) (hcap : s.capPending = false) :
    CountsTrue (countRollover s) g where
  width := hg.width
  counter := hg.counter
  rollovers := by
    have hcounted := hg.nextRollover_of_wrap hovf
    simp [countRollover, hcounted]
  rcWidth := nextRollover_lt _ _
  wrapRecent h := by cases h
  edgePast := hg.edgePast
  captured h := by simp [countRollover, hcap] at h
  previous := hg.previous

/-- The attribution moves a pending wrap into the rollover count, or leaves both (R113). -/
theorem CountsTrue.attributed_rollovers (hg : CountsTrue s g) :
    ((attributeRollover s).rc + if (attributeRollover s).ovfPending then 1 else 0) % 2 ^ s.cfg.rcw =
      g.now / 2 ^ s.cfg.w % 2 ^ s.cfg.rcw := by
  rcases attributeRollover_cases s with ⟨hovf, _, h⟩ | ⟨_, h⟩ <;> rw [h]
  · simp [hg.nextRollover_of_wrap hovf]
  · exact hg.rollovers

/-- CAP_ISR: its timestamp is the true count at the edge (R112 to R118). -/
theorem CountsTrue.after_capIsr (hg : CountsTrue s g) (hcap : s.capPending = true) :
    CountsTrue (handleCapture s) { g with prev := g.edge } := by
  have hfoot := handleCapture_changesOnly s
  have hcnt : (handleCapture s).cnt = s.cnt := by
    by_contra hne
    simpa using hfoot.within .cnt hne
  have hovf : (handleCapture s).ovfPending = true → s.ovfPending = true := by
    simp +contextual [attributeRollover_eq]
  have hts : (handleCapture s).prevTs.toNat = g.edge % 2 ^ 32 := by
    rw [handleCapture_prevTs, hg.captureTimestamp_toNat hcap]
  refine
    { edgePast := ⟨le_rfl, hg.edgePast.2⟩, captured := fun h => by simp at h, previous := fun _ => hts
      width := ?_, counter := ?_, rollovers := ?_, rcWidth := ?_, wrapRecent := ?_ } <;> rw [hfoot.cfg]
  · exact hg.width
  · exact hcnt ▸ hg.counter
  · simpa using hg.attributed_rollovers
  · simpa using attributeRollover_rc_lt s hg.rcWidth
  · exact fun h => hcnt ▸ hg.wrapRecent (hovf h)

/-- Nothing counted yet: power-on, and the motion chip's reset (70_reset_and_hazards.md R260, R262). -/
theorem countsTrue_zero {t : State} (hw : 2 ≤ t.cfg.w ∧ t.cfg.w < 32) (hcnt : t.cnt = 0) (hrc : t.rc = 0)
    (hovf : t.ovfPending = false) (hcap : t.capPending = false) (hprev : t.havePrev = false) :
    CountsTrue t { now := 0, edge := 0, prev := 0 } where
  width := hw
  counter := by simp [hcnt]
  rollovers := by simp [hrc, hovf]
  rcWidth := by simp [hrc]
  wrapRecent := by simp [hovf]
  edgePast := by simp
  captured := by simp [hcap]
  previous := by simp [hprev]

end

/-! ### The obligations of the Beacon Timing Engine -/

/-- Settles O19, instruction by instruction: the engine's own and RESET_M by their lemmas, the others by their
footprint. -/
theorem promptSchedulesKeepTheCountsTrue : Obligations.PromptSchedulesKeepTheCountsTrue := by
  intro s t i g hg hprompt h
  cases i with
  | cnt =>
    obtain ⟨_, rfl⟩ := whileMotionRuns_next h
    exact hg.after_cnt hprompt
  | edge =>
    obtain ⟨_, rfl⟩ := whileMotionRuns_next h
    exact hg.after_edge
  | capIsr =>
    obtain ⟨_, hcap, rfl⟩ := capIsr_next h
    exact hg.after_capIsr hcap
  | ovfIsr =>
    obtain ⟨_, hovf, hcap, rfl⟩ := ovfIsr_next h
    exact hg.after_ovfIsr hovf hcap
  | resetM =>
    have hcfg := (exec_changesOnly_writers h).cfg
    obtain rfl := Host.Outcome.next.inj h
    exact countsTrue_zero (hcfg ▸ hg.width) rfl rfl rfl rfl rfl
  | _ => exact hg.frame_of_not_engine h (by simp)

/-- Settles O20: both timestamps are true counts modulo 2^32, so that their difference is the distance. -/
theorem capturedTimestampsAreTrueCounts : Obligations.CapturedTimestampsAreTrueCounts := by
  intro s g hg hrun hcap
  have hts := hg.captureTimestamp_toNat hcap
  have hdelta (hprev : s.havePrev = true) (hnear : g.edge - g.prev < 2 ^ 32) :
      (sampleDelta (captureTimestamp s) s.prevTs).toNat = g.edge - g.prev := by
    have hpast := hg.edgePast.1
    rw [sampleDelta_toNat, hts, hg.previous hprev]
    omega
  refine ⟨handleCapture s, exec_capIsr_of_pending hrun hcap, by rw [handleCapture_prevTs, hts], ?_, ?_⟩
  · intro hprev hseed hnear
    rw [handleCapture_smooth hprev, smoothed_toNat, hseed, if_neg (by simp), hdelta hprev hnear]
  · intro hprev hlater hnear
    rw [handleCapture_smooth hprev, smoothed_toNat, hlater, if_pos rfl, hdelta hprev hnear]

/-- A sample on records: the interval and the timestamp are written, and a qualifying interval posts. -/
theorem recordTimestamp_takeSample (ts : Ticks) (s : State) :
    recordTimestamp ts (takeSample ts s) =
      let sm := smoothed s.haveSmooth s.smooth (sampleDelta ts s.prevTs)
      let s2 := { s with prevTs := ts, havePrev := true, smooth := sm, haveSmooth := true }
      if qualifies s.cfg sm = true then posted 0x200000#24 s2 else s2 := by
  rcases takeSample_cases ts s with ⟨hq, h⟩ | ⟨hq, h⟩ <;> rw [h]
  · simp only [hq, if_true]
    rw [recordTimestamp_post, post_eq_posted]
    rfl
  · simp only [hq, Bool.false_eq_true, if_false]
    rfl

/-- R112's effect, computed on records and numbers. -/
theorem handleCapture_eq_captured (s : State) : handleCapture s = captured s := by
  have hnat : (captureTimestamp s).toNat = ((attributeRollover s).rc * 2 ^ s.cfg.w ||| s.capVal) % 2 ^ 32 := by
    rw [captureTimestamp, composeTimestamp, BitVec.toNat_ofNat, Nat.shiftLeft_eq]
  have hts : captureTimestamp s =
      BitVec.ofNat 32 (((attributeRollover s).rc * 2 ^ s.cfg.w ||| s.capVal) % 2 ^ 32) := by
    rw [← hnat, BitVec.ofNat_toNat, BitVec.setWidth_eq]
  rcases handleCapture_cases s with ⟨hprev, h⟩ | ⟨hprev, h⟩ <;> rw [h]
  · rw [hts, attributeRollover_eq]
    simp only [captured, hprev, if_true]
    rfl
  · simp only [recordTimestamp_takeSample, qualifies_iff, freq_eq, smoothed_toNat]
    simp only [smoothed_eq_ofNat, sampleDelta_toNat, hnat]
    rw [hts, attributeRollover_eq]
    simp only [captured, hprev, Bool.true_eq_false, if_false]
    rfl

/-- Settles O12: the effect is `captured`, the two stops are the enabling condition's. -/
theorem capIsrExtendsSmoothsAndClassifies : Obligations.CapIsrExtendsSmoothsAndClassifies := by
  intro s
  refine ⟨rfl, fun hrun hcap => ?_, fun hrun hcap => ?_, fun hhalt => ?_⟩
  · rw [exec_capIsr_of_pending hrun hcap, handleCapture_eq_captured]
  · simp [exec, execCapIsr, hrun, hcap]
  · simp [exec, execCapIsr, hhalt]

/-- Settles O16: nothing of the timestamp is cut off, so that 2^W divides it into its parts. -/
theorem timestampSplitsIntoCountAndCapture : Obligations.TimestampSplitsIntoCountAndCapture := by
  intro s t hw hregs h
  obtain ⟨_, hval, hrc, _⟩ := hregs
  obtain ⟨_, _, rfl⟩ := capIsr_next h
  have hts : (captureTimestamp s).toNat = (attributeRollover s).rc * 2 ^ s.cfg.w + s.capVal :=
    composeTimestamp_toNat_of_lt hw (attributeRollover_rc_lt s hrc) hval
  rw [handleCapture_prevTs, handleCapture_rc, hts]
  exact ⟨by rw [Nat.mul_add_mod_self_right, Nat.mod_eq_of_lt hval],
    by rw [Nat.mul_comm, Nat.mul_add_div (by positivity), Nat.div_eq_of_lt hval, Nat.add_zero]⟩

/-- A capture after which the interval does not qualify posts nothing. -/
theorem handleCapture_of_not_qualifies {s : State} (h : qualifies s.cfg (handleCapture s).smooth = false) :
    (handleCapture s).q = s.q ∧ (handleCapture s).faultM = s.faultM ∧ (handleCapture s).out = s.out := by
  rcases handleCapture_cases s with ⟨_, hc⟩ | ⟨_, hc⟩ <;> rw [hc] at h ⊢
  · simp
  · rw [recordTimestamp_smooth, takeSample_smooth] at h
    rcases takeSample_cases (captureTimestamp s) (attributeRollover s) with ⟨hq, _⟩ | ⟨_, ht⟩
    · rw [attributeRollover_cfg] at hq
      exact absurd (hq.symm.trans h) (by simp)
    · simp [ht]

/-- Settles O17: an interval of 0 does not qualify, so that nothing is posted. -/
theorem zeroIntervalIsNeverDetected : Obligations.ZeroIntervalIsNeverDetected := by
  intro s t htol h hzero
  obtain ⟨hrun, _, rfl⟩ := capIsr_next h
  obtain ⟨hq, hfault, hout⟩ := handleCapture_of_not_qualifies (hzero ▸ not_qualifies_zero htol)
  have hrun' : (handleCapture s).faultM = 0#4 := hfault.trans hrun
  refine ⟨hq, hrun', hout, ?_⟩
  rw [exec_diag_of_running hrun', hzero, freq_eq]
  rfl

/-- Settles O18: the band of R117, then R125's two ends by dividing RC1's 2500000 Hz. -/
theorem detectionBandIsExact : Obligations.DetectionBandIsExact := by
  intro c s hlegal
  obtain ⟨_, _, ⟨_, htol⟩, _⟩ := hlegal
  refine ⟨?_, ?_⟩ <;> rw [qualifies_iff, freq_eq]
  · rw [Config.fTarget] at htol
    split <;> omega
  · have hrc1 : Config.rc1.srcClk / Config.rc1.prescale / (s.toNat * Config.rc1.capDiv) = 2500000 / s.toNat := by
      simp [Config.rc1]
    rw [hrc1, show Config.rc1.tol = 20 from rfl]
    split
    · omega
    · next hpos =>
      have hlow : 1407 < 2500000 / s.toNat ↔ s.toNat ≤ 1775 := by
        rw [Nat.lt_iff_add_one_le, Nat.le_div_iff_mul_le (by omega)]
        omega
      have hhigh : 2500000 / s.toNat < 1447 ↔ 1728 ≤ s.toNat := by
        rw [Nat.div_lt_iff_lt_mul (by omega)]
        omega
      omega

/-- Settles O10: CNT's effect is the record update that R110 spells out. -/
theorem cntAdvancesAndFlagsTheWrap : Obligations.CntAdvancesAndFlagsTheWrap :=
  fun _ => ⟨rfl, fun hrun => whileMotionRuns_of_running hrun _, fun hhalt => whileMotionRuns_of_halted hhalt _⟩

/-- Settles O11, by the two cases of the capture latch. -/
theorem edgeLatchesTheCounterOrOverruns : Obligations.EdgeLatchesTheCounterOrOverruns := by
  intro s
  refine ⟨rfl, fun hrun hcap => ?_, fun hrun hcap => ?_, fun hhalt => whileMotionRuns_of_halted hhalt _⟩
  · rw [← captureEdge_of_free hcap]
    exact whileMotionRuns_of_running hrun _
  · rw [← captureEdge_of_pending hcap]
    exact whileMotionRuns_of_running hrun _

/-- Settles O13, by the order of OVF_ISR's three conditions. -/
theorem ovfIsrCountsAPendingRollover : Obligations.OvfIsrCountsAPendingRollover := by
  intro s
  refine ⟨rfl, fun hrun hovf hcap => ?_, fun hrun hovf => ?_, fun hrun hovf hcap => ?_, fun hhalt => ?_⟩
  · simp [exec, execOvfIsr, hrun, hovf, hcap, countRollover, nextRollover, Config.rcw]
  · simp [exec, execOvfIsr, hrun, hovf]
  · simp [exec, execOvfIsr, hrun, hovf, hcap]
  · simp [exec, execOvfIsr, hhalt]

/-- Settles O14, with the frequency on numbers. -/
theorem diagReportsAndWritesNothing : Obligations.DiagReportsAndWritesNothing := by
  intro s
  refine ⟨rfl, fun hrun => ?_, fun hhalt => whileMotionRuns_of_halted hhalt _⟩
  rw [exec_diag_of_running hrun, freq_eq]

/-- Settles O15: 32 bits hold the mean, which is linear arithmetic. -/
theorem smoothingStaysBetweenOldAndSample : Obligations.SmoothingStaysBetweenOldAndSample := by
  intro smooth delta
  have hvalue := smoothed_toNat true smooth delta
  rw [if_pos rfl] at hvalue
  omega

/-- No exit counted yet (42_behavior_controller.md R197). -/
theorem exitsTrue_powerOn {c : Config} (hdepth : 1 ≤ c.qdepth ∧ c.qdepth < 2 ^ 12)
    (beacon tape okM okC : Bool) : ExitsTrue (State.powerOn c beacon tape okM okC) { count := 0, posted := [] } where
  depth := hdepth
  bounded := Nat.zero_le _
  epoch := rfl
  parallel := rfl
  quiet _ := rfl
  recent := by simp
  tags := by simp

/-- Settles O58: nothing is counted yet, and legality gives the two parameters' ranges. -/
theorem historiesStartTrueAtPowerOn : Obligations.HistoriesStartTrueAtPowerOn := by
  intro c beacon tape okM okC hlegal
  obtain ⟨hw, _, _, _, hdepth, _⟩ := hlegal
  exact ⟨countsTrue_zero hw rfl rfl rfl rfl rfl, exitsTrue_powerOn hdepth beacon tape okM okC⟩

end Sys2Proof.Machine

/-! ## The Command Link (41_command_link.md)

What the Poller makes of a byte, for every byte; what the Responder answers in an exchange; then POLL and POLL_NOISY as
one exchange whose byte is received, and the schedules of section 3 as runs of these. -/

namespace Sys2Proof

/-! ### Stimulus words from their numbers, and CMD_IN's operand (R92, R94) -/

theorem stimulusWord_eq_ofNat (op : BitVec 5) (arg : Byte) :
    stimulusWord op arg = BitVec.ofNat 32 (op.toNat * 2 ^ 27 + arg.toNat) := by
  rw [← stimulusWord_toNat, BitVec.ofNat_toNat, BitVec.setWidth_eq]

theorem CmdKind.getElem?_all_kindArg (k : CmdKind) : CmdKind.all[(kindArg k).toNat]? = some k := by
  cases k <;> rfl

/-- CMD_IN's operand is the kind's place in the order of 00_scope.md R18. -/
theorem kindArg_toNat_of_getElem? {n : Nat} {k : CmdKind} (h : CmdKind.all[n]? = some k) : (kindArg k).toNat = n := by
  have hnodup : CmdKind.all.Nodup := by decide
  obtain ⟨hn, hget⟩ := List.getElem?_eq_some_iff.1 h
  obtain ⟨hlt, hplace⟩ := List.getElem?_eq_some_iff.1 (CmdKind.getElem?_all_kindArg k)
  exact hnodup.getElem_inj_iff.1 (hplace.trans hget.symm)

theorem decodeStimulus_cmdIn (linkNoise : Bool) (k : CmdKind) :
    decodeStimulus linkNoise (stimulusWord 0x06#5 (kindArg k)) = .ok (.cmdIn k) := by
  simp [decodeStimulus, kindOfArg_kindArg]

theorem decodeStimulus_pollNoisy (linkNoise : Bool) (x : Byte) :
    decodeStimulus linkNoise (stimulusWord 0x08#5 x) =
      if linkNoise then .ok (.pollNoisy x) else .error .linkNoiseOff := by
  simp [decodeStimulus]

end Sys2Proof

namespace Sys2Proof.Machine

open Sys2Proof.Claims

/-! ### The Poller (R143 to R145) -/

theorem encodeEntry_newCommand (b : Byte) : encodeEntry (.newCommand b) = entryOf 1 b.toNat 0 := by
  apply BitVec.eq_of_toNat_eq
  have hb := b.isLt
  simp only [encodeEntry, entryOf, entryWord_toNat, BitVec.toNat_ofNat]
  omega

/-- The queue grows by a post only where there was room, and then by the posted entry. -/
theorem post_of_grown {en : Entry} {s : State} {e : EntryWord} (h : (post en s).q = s.q ++ [e]) :
    e = encodeEntry en ∧ post en s = { s with q := s.q ++ [e] } := by
  rcases post_cases en s with ⟨_, hpost⟩ | ⟨_, hpost⟩ <;> rw [hpost] at h ⊢
  · simp at h
  · obtain rfl : encodeEntry en = e := by simpa using h
    exact ⟨rfl, rfl⟩

section
variable {b : Byte} {s : State}

theorem pollerReceive_flag (s : State) : pollerReceive 0xFF#8 s = { s with pLatch := true } := rfl

/-- Without a flag before it a byte changes nothing. -/
theorem pollerReceive_of_unlatched (hflag : b ≠ 0xFF#8) (hlatch : s.pLatch = false) : pollerReceive b s = s := by
  simp [pollerReceive, Config.flagByte, hflag, hlatch]

theorem pollerReceive_command {k : CmdKind} (hk : classify s.cfg.code b = .cmd k) (hlatch : s.pLatch = true) :
    pollerReceive b s = setLatch false (forwardCommand b s) := by
  have hflag : b ≠ Config.flagByte := (classify_flag_iff s.cfg.code b).not.1 (by simp [hk])
  simp [pollerReceive, hflag, hlatch, hk]

theorem pollerReceive_invalid (hinv : classify s.cfg.code b = .invalid) (hlatch : s.pLatch = true) :
    pollerReceive b s = { s with out := s.out ++ [.protoErr b], pLatch := false } := by
  have hflag : b ≠ Config.flagByte := (classify_flag_iff s.cfg.code b).not.1 (by simp [hinv])
  simp [pollerReceive, hflag, hlatch, hinv, setLatch, emit]

theorem setLatch_forwardCommand (b : Byte) (s : State) :
    setLatch false (forwardCommand b s) =
      if s.cfg.suppressEqualAfterFlag = false ∨ b ≠ s.pLast then
        { posted (entryOf 1 b.toNat 0) s with pLast := b, pLatch := false }
      else { s with pLatch := false } := by
  unfold forwardCommand
  rw [post_eq_posted, encodeEntry_newCommand]
  split <;> rfl

/-- A code after a flag that is not suppressed is posted, where the queue has room. -/
theorem pollerReceive_forwards {k : CmdKind} (hk : classify s.cfg.code b = .cmd k) (hlatch : s.pLatch = true)
    (hfwd : s.cfg.suppressEqualAfterFlag = false ∨ b ≠ s.pLast) (hroom : s.q.length ≠ s.cfg.qdepth) :
    pollerReceive b s = { s with q := s.q ++ [entryOf 1 b.toNat 0], pLast := b, pLatch := false } := by
  rw [pollerReceive_command hk hlatch, setLatch_forwardCommand, if_pos hfwd, posted, if_neg hroom]

/-- The Poller's processing of a byte is what the rules spell out. -/
theorem pollerReceive_received (b : Byte) (s : State) : Received b s (pollerReceive b s) := by
  refine ⟨?_, pollerReceive_of_unlatched, ?_, fun hflag hcode => pollerReceive_invalid (classify_invalid hflag hcode)⟩
  · rintro rfl
    exact pollerReceive_flag s
  · rintro k hlegal rfl hlatch
    rw [pollerReceive_command (classify_byte hlegal k) hlatch, setLatch_forwardCommand]

/-- Where the Poller has posted, it was a command's code after a flag, and this is the state it left (R152). -/
theorem pollerReceive_of_grown {e : EntryWord} (h : (pollerReceive b s).q = s.q ++ [e]) :
    b ≠ 0xFF#8 ∧ s.pLatch = true ∧ (∃ k, s.cfg.code.byte k = b) ∧ e = entryOf 1 b.toNat 0 ∧
      pollerReceive b s = { s with q := s.q ++ [e], pLast := b, pLatch := false } := by
  rcases pollerReceive_cases b s with ⟨_, hr⟩ | ⟨hflag, hlatch, hcmd, hr⟩ | ⟨_, _, _, hr⟩ | ⟨_, _, hr⟩ <;>
    rw [hr] at h ⊢
  · simp at h
  · rcases forwardCommand_cases b s with ⟨_, hf⟩ | ⟨_, hf⟩ <;> rw [hf] at h ⊢
    · obtain ⟨he, hpost⟩ := post_of_grown (by simpa using h)
      rw [hpost, he, encodeEntry_newCommand]
      exact ⟨hflag, hlatch, (classify_isCmd _ _ hflag).1 hcmd, rfl, rfl⟩
    · simp at h
  · simp at h
  · simp at h

end

/-! ### The exchange (R141) -/

theorem preparedByte_eq (l : LinkState) (b : Byte) :
    preparedByte l b = if l = .flagQueued then 0xFF#8 else b := by
  cases l <;> rfl

theorem advanceLink_eq_afterExchange (l : LinkState) : advanceLink l = afterExchange l := by
  cases l <;> rfl

section
variable {s : State}

theorem responderExchange_of_running (hrunC : s.faultC = 0#1) :
    responderExchange s =
      (if s.rState = .flagQueued then 0xFF#8 else s.rHeld, { s with rState := afterExchange s.rState }) := by
  rw [responderExchange_running hrunC, preparedByte_eq, advanceLink_eq_afterExchange]

theorem responderExchange_of_halted (hhaltC : s.faultC ≠ 0#1) : responderExchange s = drawHaltedByte s :=
  if_pos hhaltC

/-- The draw changes at most the settled replies and the draw counter. -/
theorem responderExchange_draws (hhaltC : s.faultC ≠ 0#1) :
    ∃ b bs n, responderExchange s = (b, { s with haltedByteIn := bs, drawCount := n }) := by
  rcases responderExchange_cases s with ⟨hrunC, _⟩ | ⟨_, hdraw⟩
  · exact absurd hrunC hhaltC
  · exact hdraw

theorem drawHaltedByte_of_settled {b : Byte} {rest : List Byte} (h : s.haltedByteIn = b :: rest) :
    drawHaltedByte s = (b, { s with haltedByteIn := rest }) := by
  simp [drawHaltedByte, h]

theorem drawHaltedByte_of_unsettled (h : s.haltedByteIn = []) :
    drawHaltedByte s = (Config.haltedByte s.drawCount, { s with drawCount := s.drawCount + 1 }) := by
  simp [drawHaltedByte, h]

end

/-! ### POLL, POLL_NOISY and CMD_IN (R140, R142, R146) -/

section
variable {s u : State} {b x : Byte}

/-- POLL receives the byte of the exchange, in the state that the exchange leaves. -/
theorem exec_poll_eq (hex : responderExchange s = (b, u)) :
    exec .poll s = whileMotionRuns s (pollerReceive b u) := by
  simp [exec, execPoll, pollOnce, hex]

theorem exec_poll_of_exchange (hrun : s.faultM = 0#4) (hex : responderExchange s = (b, u)) :
    exec .poll s = .next (pollerReceive b u) := by
  rw [exec_poll_eq hex, whileMotionRuns_of_running hrun]

theorem exec_poll_received (hrun : s.faultM = 0#4) (hex : responderExchange s = (b, u)) :
    ∃ t, exec .poll s = .next t ∧ Received b u t :=
  ⟨_, exec_poll_of_exchange hrun hex, pollerReceive_received b u⟩

/-- POLL_NOISY discards the byte of the exchange. -/
theorem exec_pollNoisy_received (hnoise : s.cfg.linkNoise = true) (hrun : s.faultM = 0#4)
    (hex : responderExchange s = (b, u)) : ∃ t, exec (.pollNoisy x) s = .next t ∧ Received x u t := by
  refine ⟨pollerReceive x u, ?_, pollerReceive_received x u⟩
  simp [exec, execPollNoisy, pollNoisyOnce, hnoise, hrun, hex]

theorem exec_pollNoisy_of_noiseOff (hnoise : s.cfg.linkNoise = false) (hrun : s.faultM = 0#4) :
    exec (.pollNoisy x) s = .fault .linkNoiseOff := by
  simp [exec, execPollNoisy, hnoise, hrun]

theorem exec_pollNoisy_of_halted (hhalt : s.faultM ≠ 0#4) : exec (.pollNoisy x) s = .fault .motionHalted := by
  simp [exec, execPollNoisy, hhalt]

theorem exec_cmdIn_of_running {k : CmdKind} (hrunC : s.faultC = 0#1) :
    exec (.cmdIn k) s = .next (acceptCommand k s) :=
  if_pos hrunC

theorem exec_cmdIn_of_halted {k : CmdKind} (hhaltC : s.faultC ≠ 0#1) : exec (.cmdIn k) s = .fault .commandHalted :=
  if_neg hhaltC

theorem acceptCommand_of_new {k : CmdKind} (hnew : s.cfg.code.byte k ≠ s.rHeld ∨ k = .stop) :
    acceptCommand k s = { s with rHeld := s.cfg.code.byte k, rState := .flagQueued } :=
  if_pos hnew

theorem acceptCommand_of_held {k : CmdKind} (hheld : s.cfg.code.byte k = s.rHeld) (hstop : k ≠ .stop) :
    acceptCommand k s = s :=
  if_neg (by simp [hheld, hstop])

/-- A link byte that decodes is, as an instruction, what the Poller does with the byte. -/
theorem exec_of_decodeLink {i : Instr} (h : decodeLink s.cfg.code b = .ok i) :
    exec i s = whileMotionRuns s (pollerReceive b s) := by
  unfold decodeLink at h
  split at h
  · next hflag =>
    cases h
    rw [(classify_flag_iff _ _).1 hflag]
    rfl
  · next k hk =>
    cases h
    rw [exec_ofKind, classify_cmd_byte _ _ _ hk]
  · cases h

theorem runOps_cons {i : Instr} {rest : List Instr} (h : exec i s = .next u) :
    runOps (i :: rest) s = runOps rest u := by
  simp [runOps, h]

/-- A poll in FlagQueued takes the flag. -/
theorem exec_poll_of_flagQueued (hrun : s.faultM = 0#4) (hrunC : s.faultC = 0#1) (hstate : s.rState = .flagQueued) :
    exec .poll s = .next { s with rState := .payloadQueued, pLatch := true } := by
  rw [exec_poll_of_exchange hrun (responderExchange_of_running hrunC), if_pos hstate, pollerReceive_flag, hstate]
  rfl

/-- A poll out of FlagQueued takes the held byte. -/
theorem exec_poll_of_not_flagQueued (hrun : s.faultM = 0#4) (hrunC : s.faultC = 0#1)
    (hstate : s.rState ≠ .flagQueued) :
    exec .poll s = .next (pollerReceive s.rHeld { s with rState := .awaitingCommand }) := by
  rw [exec_poll_of_exchange hrun (responderExchange_of_running hrunC), if_neg hstate, afterExchange, if_neg hstate]

/-- A poll of the held byte, its flag long consumed, leaves every register as it was (R149). -/
theorem exec_poll_of_delivered (hrun : s.faultM = 0#4) (hrunC : s.faultC = 0#1) (hstate : s.rState = .awaitingCommand)
    (hlatch : s.pLatch = false) (hheld : s.rHeld ≠ 0xFF#8) : exec .poll s = .next s := by
  rw [exec_poll_of_not_flagQueued hrun hrunC (by simp [hstate]), ← hstate, pollerReceive_of_unlatched hheld hlatch]

end

/-! ### The statements -/

/-- Settles O22: each row is the Poller's reception of its byte. -/
theorem linkBytesAreReceived : Obligations.LinkBytesAreReceived := by
  intro s
  simp only [exec_ofKind]
  exact ⟨fun hrun => ⟨⟨_, whileMotionRuns_of_running hrun _, pollerReceive_received _ s⟩,
      fun _ => ⟨_, whileMotionRuns_of_running hrun _, pollerReceive_received _ s⟩⟩,
    fun hhalt => ⟨whileMotionRuns_of_halted hhalt _, fun _ => whileMotionRuns_of_halted hhalt _⟩⟩

/-- Settles O23, by the two cases of the exchange. -/
theorem pollReceivesThePreparedByte : Obligations.PollReceivesThePreparedByte := by
  intro s
  refine ⟨rfl, fun hrun hrunC => exec_poll_received hrun (responderExchange_of_running hrunC), fun hrun hhaltC => ?_,
    fun hhalt => whileMotionRuns_of_halted hhalt _⟩
  obtain ⟨b, bs, n, hex⟩ := responderExchange_draws hhaltC
  exact ⟨b, bs, n, exec_poll_received hrun hex⟩

/-- Settles O24: a halted command chip's reply is the draw. -/
theorem haltedCommandChipRepliesAnyByte : Obligations.HaltedCommandChipRepliesAnyByte := by
  intro s hrun hhaltC
  have hex := responderExchange_of_halted hhaltC
  exact ⟨fun b rest hin => exec_poll_received hrun (hex.trans (drawHaltedByte_of_settled hin)),
    fun hin => ⟨_, exec_poll_received hrun (hex.trans (drawHaltedByte_of_unsettled hin))⟩⟩

/-- Settles O25, by the two cases of the exchange, whose byte is not used. -/
theorem pollNoisyReceivesItsOperand : Obligations.PollNoisyReceivesItsOperand := by
  intro s x
  have hword : BitVec.ofNat 32 (0x40000000 + x.toNat) = stimulusWord 0x08#5 x := (stimulusWord_eq_ofNat 0x08#5 x).symm
  rw [hword]
  refine ⟨decodeStimulus_pollNoisy true x, decodeStimulus_pollNoisy false x,
    fun hnoise hrun hrunC => exec_pollNoisy_received hnoise hrun (responderExchange_of_running hrunC),
    fun hnoise hrun hhaltC => ?_, exec_pollNoisy_of_noiseOff, exec_pollNoisy_of_halted⟩
  obtain ⟨_, bs, n, hex⟩ := responderExchange_draws hhaltC
  exact ⟨bs, n, exec_pollNoisy_received hnoise hrun hex⟩

/-- Settles O26, step by step: CMD_IN queues the flag, one POLL takes the flag, the next takes the code. -/
theorem deliveryRoundTrip : Obligations.DeliveryRoundTrip := by
  intro s k hlegal hrun hrunC hstate hlatch hnew hfwd hroom
  calc runOps [.cmdIn k, .poll, .poll] s
    _ = runOps [.poll, .poll] { s with rHeld := s.cfg.code.byte k, rState := .flagQueued } := by
        rw [runOps_cons (exec_cmdIn_of_running hrunC), acceptCommand_of_new (hnew.imp_left Ne.symm)]
    _ = runOps [.poll] { s with rHeld := s.cfg.code.byte k, rState := .payloadQueued, pLatch := true } :=
        runOps_cons (exec_poll_of_flagQueued hrun hrunC rfl)
    _ = runOps [] (pollerReceive (s.cfg.code.byte k)
          { s with rHeld := s.cfg.code.byte k, rState := .awaitingCommand, pLatch := true }) :=
        runOps_cons (exec_poll_of_not_flagQueued hrun hrunC (by simp))
    _ = runOps [] { s with
          rHeld := s.cfg.code.byte k
          rState := .awaitingCommand
          pLatch := false
          pLast := s.cfg.code.byte k
          q := s.q ++ [entryOf 1 (s.cfg.code.byte k).toNat 0] } :=
        congrArg (runOps []) (pollerReceive_forwards (classify_byte hlegal k) rfl (hfwd.imp_right Ne.symm) hroom)
    _ = _ := by rw [runOps, hstate, hlatch]

/-- Settles O27, by induction on the number of polls. -/
theorem repeatedPollsChangeNothing : Obligations.RepeatedPollsChangeNothing := by
  intro s n hrun hrunC hstate hlatch hheld
  induction n with
  | zero => rfl
  | succ n ih =>
    rw [List.replicate_succ, runOps_cons (exec_poll_of_delivered hrun hrunC hstate hlatch hheld), ih]

/-- Settles O28: the Poller posts only a code after a flag, and a running Responder sends a code only out of
FlagQueued. -/
theorem onlyFlaggedHeldCommandsAreForwarded : Obligations.OnlyFlaggedHeldCommandsAreForwarded := by
  intro s t e _ hrunC h hq
  obtain ⟨hrun, _⟩ := whileMotionRuns_next h
  by_cases hstate : s.rState = .flagQueued
  · rw [exec_poll_of_flagQueued hrun hrunC hstate] at h
    obtain rfl := Host.Outcome.next.inj h
    simp at hq
  · rw [exec_poll_of_not_flagQueued hrun hrunC hstate] at h
    obtain rfl := Host.Outcome.next.inj h
    obtain ⟨_, hlatch, ⟨k, hk⟩, he, ht⟩ := pollerReceive_of_grown hq
    rw [ht]
    exact ⟨hlatch, hstate, he, ⟨k, hk.symm⟩, rfl, rfl, rfl⟩

/-- Settles O9: POLL's exchange hands the prepared byte to the Poller, and so does the instruction that it is. -/
theorem stepRunsThePolledByte : Obligations.StepRunsThePolledByte := by
  intro s rest i hs hrunC hi
  rw [step_of_decodes (i := .poll) hs rfl, exec_of_decodeLink (s := { s with script := rest, rState := _ }) hi,
    exec_poll_eq (responderExchange_of_running (s := { s with script := rest }) hrunC)]
  rfl

/-- Settles O21, by the two cases of CMD_IN's effect. -/
theorem cmdInArmsTheResponder : Obligations.CmdInArmsTheResponder := by
  intro s k
  refine ⟨fun n hn => ?_, fun hrunC hnew => ?_, fun hrunC hheld hstop => ?_, exec_cmdIn_of_halted⟩
  · rw [← kindArg_toNat_of_getElem? hn, ← decodeStimulus_cmdIn s.cfg.linkNoise k, stimulusWord_eq_ofNat]
    rfl
  · rw [exec_cmdIn_of_running hrunC, acceptCommand_of_new hnew]
  · rw [exec_cmdIn_of_running hrunC, acceptCommand_of_held hheld hstop]

end Sys2Proof.Machine

/-! ## The behaviour controller (42_behavior_controller.md)

The handlers on records; what an entry does when it is dispatched; the timer's ticks and the sensor levels; then the two
invariants: the machine's own, kept by every operation, and the truth of the exits, kept by what a stimulus does to the
queue and by what a dispatched entry does to the state. -/

namespace Sys2Proof.Machine

open Sys2Proof.Claims

/-! ### The handlers, spelled out on records (R171 to R189, R195) -/

theorem encodeEntry_timeout (tag : Epoch) : encodeEntry (.timeout tag) = entryOf 4 0 tag.toNat := by
  apply BitVec.eq_of_toNat_eq
  have htag := tag.isLt
  simp only [encodeEntry, entryOf, entryWord_toNat, BitVec.toNat_ofNat]
  omega

theorem stopAction_eq_ended (s : State) : stopAction s = ended s := rfl

/-- R181: preemption, on records. -/
theorem preempt_eq_posted (c : Byte) (s : State) : preempt c s = posted (entryOf 1 c.toNat 0) (ended s) := by
  rw [preempt, post_eq_posted, encodeEntry_newCommand, stopAction_eq_ended]

section
variable {s : State}

theorem startAlign_of_beacon (hpin : s.beaconPin = true) :
    startAlign s = post (.beaconDetected .synthetic) (gotoState .aligningWithBeacon s) := by
  simp [startAlign, hpin]

theorem startAlign_of_no_beacon (hpin : s.beaconPin = false) :
    startAlign s = gotoState .aligningWithBeacon (armTimer s.cfg.tAlign (actuate .spin s)) := by
  simp [startAlign, hpin]

theorem startSearch_of_tape (hpin : s.tapePin = false) :
    startSearch s = post (.tapeDetected .synthetic) (gotoState .searchingForTape s) := by
  simp [startSearch, hpin]

theorem startSearch_of_no_tape (hpin : s.tapePin = true) :
    startSearch s = gotoState .searchingForTape (armTimer s.cfg.tSearch (actuate .tapeSearch s)) := by
  simp [startSearch, hpin]

theorem wheels_spin_of_cw {cfg : Config} (hdir : cfg.spinDir = .cw) : wheels cfg .spin = turnCw cfg.dutySpin := by
  simp [wheels, hdir]

theorem wheels_spin_of_ccw {cfg : Config} (hdir : cfg.spinDir = .ccw) : wheels cfg .spin = turnCcw cfg.dutySpin := by
  simp [wheels, hdir]

theorem actuate_eq_requested (a : Action) (s : State) :
    actuate a s = requested (wheels s.cfg a).1 (wheels s.cfg a).2 s := rfl

theorem handleNewCommand_of_stopped {k : CmdKind} {c : Byte} (hb : s.bState = .stopped)
    (hk : classify s.cfg.code c = .cmd k) : handleNewCommand c s = startCommand k s := by
  simp [handleNewCommand, hb, hk]

theorem handleNewCommand_of_unknown {c : Byte} (hb : s.bState = .stopped) (hc : ∀ k, s.cfg.code.byte k ≠ c) :
    handleNewCommand c s = s := by
  unfold handleNewCommand
  rw [hb]
  cases hclass : classify s.cfg.code c with
  | cmd k => exact absurd (classify_cmd_byte _ _ _ hclass) (hc k)
  | flag | invalid => rfl

theorem handleNewCommand_of_moving {c : Byte} (hb : s.bState ≠ .stopped) : handleNewCommand c s = preempt c s := by
  unfold handleNewCommand
  split
  · next hstopped => exact absurd hstopped hb
  all_goals rfl

theorem handleBeacon_of_aligning (hb : s.bState = .aligningWithBeacon) : handleBeacon s = ended s := by
  simp [handleBeacon, hb, stopAction_eq_ended]

theorem handleBeacon_of_not_aligning (hb : s.bState ≠ .aligningWithBeacon) : handleBeacon s = s := by
  unfold handleBeacon
  split
  · next haligning => exact absurd haligning hb
  all_goals rfl

theorem handleTape_of_searching (hb : s.bState = .searchingForTape) : handleTape s = ended s := by
  simp [handleTape, hb, stopAction_eq_ended]

theorem handleTape_of_not_searching (hb : s.bState ≠ .searchingForTape) : handleTape s = s := by
  unfold handleTape
  split
  · next hsearching => exact absurd hsearching hb
  all_goals rfl

/-- `valid_timeout` holds (R195): the action ends. -/
theorem handleTimeout_of_valid {tag : Epoch} (htag : tag = s.tEpoch) (hb : s.bState ≠ .stopped) :
    handleTimeout tag s = ended s := by
  simp [handleTimeout, validTimeout, htag, hb, stopAction_eq_ended]

theorem handleTimeout_of_stale {tag : Epoch} (htag : tag ≠ s.tEpoch) : handleTimeout tag s = s := by
  simp [handleTimeout, validTimeout, htag]

theorem handleTimeout_of_stopped {tag : Epoch} (hb : s.bState = .stopped) : handleTimeout tag s = s := by
  simp [handleTimeout, validTimeout, hb]

/-- In Stopped every entry but a command is ignored (R180). -/
theorem handleEntry_of_stopped {e : Entry} (hb : s.bState = .stopped) (he : ∀ c, e ≠ .newCommand c) :
    handleEntry e s = s := by
  cases e with
  | newCommand c => exact absurd rfl (he c)
  | beaconDetected src => exact handleBeacon_of_not_aligning (by simp [hb])
  | tapeDetected src => exact handleTape_of_not_searching (by simp [hb])
  | timeout tag => exact handleTimeout_of_stopped hb

end

/-! ### A dispatched entry (R170) -/

section
variable {s : State}

/-- NEW_COMMAND(CODE(k)) in Stopped starts the command. -/
theorem exec_newCommand_of_stopped (hlegal : s.cfg.code.Legal) (hrun : s.faultM = 0#4) (hb : s.bState = .stopped)
    (k : CmdKind) : exec (.newCommand (s.cfg.code.byte k)) s = .next (startCommand k s) := by
  rw [← handleNewCommand_of_stopped hb (classify_byte hlegal k)]
  exact whileMotionRuns_of_running hrun _

/-- DISPATCH of an entry's word is the handling of the entry. -/
theorem exec_dispatch_of_decodes {w : EntryWord} {e : Entry} {rest : List EntryWord} (hrun : s.faultM = 0#4)
    (hq : s.q = w :: rest) (hw : decodeEntry w = .ok e) :
    exec .dispatch s = .next (handleEntry e { s with q := rest }) := by
  rw [exec_dispatch_of_running hrun hq, runEntryWord, hw]

/-- DISPATCH runs the instruction that the head entry is. -/
theorem exec_dispatch_eq_exec {w : EntryWord} {rest : List EntryWord} {i : Instr} (hrun : s.faultM = 0#4)
    (hq : s.q = w :: rest) (hi : decode s.cfg (.entry w) = .ok i) :
    exec .dispatch s = exec i { s with q := rest } := by
  unfold decode at hi
  cases hw : decodeEntry w with
  | error why => simp [hw] at hi
  | ok e =>
    obtain rfl : Instr.ofEntry e = i := by simpa [hw] using hi
    rw [exec_dispatch_of_decodes hrun hq hw, exec_ofEntry]
    exact (whileMotionRuns_of_running hrun _).symm

theorem exec_dispatch_of_halted (hhalt : s.faultM ≠ 0#4) : exec .dispatch s = .fault .motionHalted := by
  simp only [exec, execDispatch]
  rcases dequeue_cases s with ⟨_, hd⟩ | ⟨w, rest, _, hd⟩ <;> rw [hd]
  · exact if_neg hhalt
  · exact whileMotionRuns_of_halted hhalt _

theorem exec_dispatch_of_empty (hrun : s.faultM = 0#4) (hq : s.q = []) : exec .dispatch s = .fault .queueEmpty := by
  simp [exec, execDispatch, dequeue, hq, hrun]

end

/-! ### The statements on one entry -/

/-- Settles O30: each rotation is its row of the wheel table with its timer. -/
theorem rotationsStartWithABoundedTimer : Obligations.RotationsStartWithABoundedTimer := by
  intro s hlegal hrun hb
  have hstart := exec_newCommand_of_stopped hlegal hrun hb
  exact ⟨hstart .rotCw90, hstart .rotCw45, hstart .rotCcw90, hstart .rotCcw45⟩

/-- Settles O31: each drive is its row of the wheel table, and no timer. -/
theorem drivesStartWithoutATimer : Obligations.DrivesStartWithoutATimer := by
  intro s hlegal hrun hb
  have hstart := exec_newCommand_of_stopped hlegal hrun hb
  exact ⟨hstart .fwdHalf, hstart .fwdFull, hstart .revHalf, hstart .revFull⟩

/-- Settles O32, by the beacon's level and then by the sense of the spin. -/
theorem alignSpinsOrTakesTheShortcut : Obligations.AlignSpinsOrTakesTheShortcut := by
  intro s hlegal hrun hb
  have hstart : exec (.newCommand (s.cfg.code.byte .align)) s = .next (startAlign s) :=
    exec_newCommand_of_stopped hlegal hrun hb .align
  rw [hstart]
  refine ⟨fun hpin => ?_, fun hpin hdir => ?_, fun hpin hdir => ?_⟩
  · rw [startAlign_of_beacon hpin]
    rfl
  · rw [startAlign_of_no_beacon hpin, actuate_eq_requested, wheels_spin_of_cw hdir]
    rfl
  · rw [startAlign_of_no_beacon hpin, actuate_eq_requested, wheels_spin_of_ccw hdir]
    rfl

/-- Settles O33, by the tape's level. -/
theorem searchDrivesOrTakesTheShortcut : Obligations.SearchDrivesOrTakesTheShortcut := by
  intro s hlegal hrun hb
  have hstart : exec (.newCommand (s.cfg.code.byte .searchTape)) s = .next (startSearch s) :=
    exec_newCommand_of_stopped hlegal hrun hb .searchTape
  rw [hstart]
  refine ⟨fun hpin => ?_, fun hpin => ?_⟩
  · rw [startSearch_of_tape hpin]
    rfl
  · rw [startSearch_of_no_tape hpin]
    rfl

/-- Settles O34: STOP is the zero row of the wheel table; an unknown byte, the flag's too, is classified no command. -/
theorem stopAndUnknownCommandsStayStopped : Obligations.StopAndUnknownCommandsStayStopped := by
  intro s c hlegal hrun hb
  refine ⟨exec_newCommand_of_stopped hlegal hrun hb .stop, fun hc => ?_⟩
  conv_rhs => rw [← handleNewCommand_of_unknown hb hc]
  exact whileMotionRuns_of_running hrun _

/-- Settles O35: out of Stopped every command preempts. -/
theorem newCommandsPreemptAndAreReposted : Obligations.NewCommandsPreemptAndAreReposted := by
  intro s c hrun hb
  rw [← preempt_eq_posted, ← handleNewCommand_of_moving hb]
  exact whileMotionRuns_of_running hrun _

/-- The three beacon rows run one handler. -/
theorem exec_beacon {i : Instr} (hi : i = .beaconEngine ∨ i = .beaconSensor ∨ i = .beaconSynthetic) (s : State) :
    exec i s = whileMotionRuns s (handleBeacon s) := by
  rcases hi with rfl | rfl | rfl <;> rfl

/-- The two tape rows run one handler. -/
theorem exec_tape {i : Instr} (hi : i = .tapeSensor ∨ i = .tapeSynthetic) (s : State) :
    exec i s = whileMotionRuns s (handleTape s) := by
  rcases hi with rfl | rfl <;> rfl

theorem exec_timeout (tag : Epoch) (s : State) :
    exec (.timeout tag) s = whileMotionRuns s (handleTimeout tag s) := rfl

/-- Settles O36, by the handler of the three beacon rows. -/
theorem beaconEndsOnlyAnAlignment : Obligations.BeaconEndsOnlyAnAlignment := by
  intro s i hi
  rw [exec_beacon hi]
  refine ⟨fun hrun hb => ?_, fun hrun hb => ?_, fun hhalt => whileMotionRuns_of_halted hhalt _⟩
  · rw [whileMotionRuns_of_running hrun, handleBeacon_of_aligning hb]
  · rw [whileMotionRuns_of_running hrun, handleBeacon_of_not_aligning hb]

/-- Settles O37, by the handler of the two tape rows. -/
theorem tapeEndsOnlyASearch : Obligations.TapeEndsOnlyASearch := by
  intro s i hi
  rw [exec_tape hi]
  refine ⟨fun hrun hb => ?_, fun hrun hb => ?_, fun hhalt => whileMotionRuns_of_halted hhalt _⟩
  · rw [whileMotionRuns_of_running hrun, handleTape_of_searching hb]
  · rw [whileMotionRuns_of_running hrun, handleTape_of_not_searching hb]

/-- Settles O38, by the two conditions of `valid_timeout` (R195). -/
theorem timeoutsActOnlyInTheirOwnEpoch : Obligations.TimeoutsActOnlyInTheirOwnEpoch := by
  intro s tag
  rw [exec_timeout]
  refine ⟨fun hrun htag hb => ?_, fun hrun htag => ?_, fun hrun hb => ?_, fun hhalt => whileMotionRuns_of_halted hhalt _⟩
  · rw [whileMotionRuns_of_running hrun, handleTimeout_of_valid htag hb]
  · rw [whileMotionRuns_of_running hrun, handleTimeout_of_stale htag]
  · rw [whileMotionRuns_of_running hrun, handleTimeout_of_stopped hb]

/-- Settles O39, by what the head of the queue is: an entry, a reserved word, or none. -/
theorem dispatchRunsTheHeadEntry : Obligations.DispatchRunsTheHeadEntry := by
  intro s
  exact ⟨rfl, fun _ _ _ hrun hq hi => exec_dispatch_eq_exec hrun hq hi,
    fun w rest => (reservedEntriesRaiseBadEvent s w rest).2, exec_dispatch_of_empty, exec_dispatch_of_halted⟩

/-- Settles O8: the step is DISPATCH, which runs the head entry. -/
theorem stepRunsTheQueuedEntry : Obligations.StepRunsTheQueuedEntry := by
  intro s rest w es i hs hrun hq hi
  rw [step_of_decodes (i := .dispatch) hs rfl]
  exact exec_dispatch_eq_exec (s := { s with script := rest }) hrun hq hi

/-! ### The timer's ticks and the sensor levels (R192 to R194) -/

section
variable {s : State}

theorem exec_tmrTick_of_inactive (hrun : s.faultM = 0#4) (hact : s.tActive = false) : exec .tmrTick s = .next s := by
  simp [exec, execTmrTick, hrun, tickTimer, hact]

/-- A tick before the last one. -/
theorem exec_tmrTick_counts (hrun : s.faultM = 0#4) (hact : s.tActive = true) (hleft : 2 ≤ s.tCount)
    (hwidth : s.tCount < 2 ^ s.cfg.tcw) : exec .tmrTick s = .next { s with tCount := s.tCount - 1 } := by
  have hdec : decrementTimer s.cfg s.tCount = s.tCount - 1 := decrementTimer_of_pos (by omega) hwidth
  have hpos : s.tCount - 1 ≠ 0 := by omega
  simp [exec, execTmrTick, hrun, tickTimer, hact, hdec, hpos]

/-- The last tick. -/
theorem exec_tmrTick_expires (hrun : s.faultM = 0#4) (hact : s.tActive = true) (hlast : s.tCount = 1)
    (hwidth : 1 ≤ s.cfg.tcw) : exec .tmrTick s = .next
      (posted (entryOf 4 0 s.tEpoch.toNat) { s with tCount := 0, tActive := false }) := by
  have hdec : decrementTimer s.cfg 1 = 0 := decrementTimer_of_pos le_rfl (Nat.one_lt_two_pow (by omega))
  simp [exec, execTmrTick, hrun, tickTimer, hact, hlast, hdec, post_eq_posted, encodeEntry_timeout]

theorem exec_beaconPin_of_running (hrun : s.faultM = 0#4) (v : Bool) :
    exec (.beaconPin v) s = .next (setBeaconPin v s) :=
  whileMotionRuns_of_running hrun _

theorem exec_tapePin_of_running (hrun : s.faultM = 0#4) (v : Bool) :
    exec (.tapePin v) s = .next (setTapePin v s) :=
  whileMotionRuns_of_running hrun _

theorem setBeaconPin_rises (hpin : s.beaconPin = false) :
    setBeaconPin true s = posted 0x201000#24 { s with beaconPin := true } :=
  if_pos ⟨hpin, rfl⟩

/-- Every change of the beacon's level but a rise posts nothing. -/
theorem setBeaconPin_of_not_rising {v : Bool} (hpin : s.beaconPin = true ∨ v = false) :
    setBeaconPin v s = { s with beaconPin := v } :=
  if_neg fun ⟨hlow, hhigh⟩ => by simp [hlow, hhigh] at hpin

theorem setTapePin_falls (hpin : s.tapePin = true) :
    setTapePin false s = posted 0x301000#24 { s with tapePin := false } :=
  if_pos ⟨hpin, rfl⟩

/-- Every change of the tape's level but a fall posts nothing. -/
theorem setTapePin_of_not_falling {v : Bool} (hpin : s.tapePin = false ∨ v = true) :
    setTapePin v s = { s with tapePin := v } :=
  if_neg fun ⟨hhigh, hlow⟩ => by simp [hlow, hhigh] at hpin

theorem set_beaconPin_same {v : Bool} (hpin : s.beaconPin = v) : { s with beaconPin := v } = s := by
  subst hpin
  rfl

theorem set_tapePin_same {v : Bool} (hpin : s.tapePin = v) : { s with tapePin := v } = s := by
  subst hpin
  rfl

end

/-- Settles O44, by the three cases of the timer. -/
theorem tmrTickCountsDownAndPosts : Obligations.TmrTickCountsDownAndPosts := fun _ =>
  ⟨rfl, exec_tmrTick_of_inactive, exec_tmrTick_counts, exec_tmrTick_expires,
    fun hhalt => whileMotionRuns_of_halted hhalt _⟩

/-- Settles O46, by the level before and the level after. -/
theorem sensorLevelsPostOnTheirEdge : Obligations.SensorLevelsPostOnTheirEdge := by
  intro s
  refine ⟨fun hrun hpin => ?_, fun hrun hpin => ?_, fun hrun => ?_, fun hrun hpin => ?_, fun hrun hpin => ?_,
    fun hrun => ?_, fun v => ?_, fun hhalt v => ⟨whileMotionRuns_of_halted hhalt _, whileMotionRuns_of_halted hhalt _⟩⟩
  · rw [exec_beaconPin_of_running hrun, setBeaconPin_rises hpin]
  · rw [exec_beaconPin_of_running hrun, setBeaconPin_of_not_rising (.inl hpin), set_beaconPin_same hpin]
  · rw [exec_beaconPin_of_running hrun, setBeaconPin_of_not_rising (.inr rfl)]
  · rw [exec_tapePin_of_running hrun, setTapePin_falls hpin]
  · rw [exec_tapePin_of_running hrun, setTapePin_of_not_falling (.inl hpin), set_tapePin_same hpin]
  · rw [exec_tapePin_of_running hrun, setTapePin_of_not_falling (.inr rfl)]
  · cases v <;> exact ⟨rfl, rfl⟩

/-! ### Schedules of ticks, signals and dispatches (R192, R198 to R200) -/

section
variable {s : State}

theorem runOps_tmrTick_of_inactive (hrun : s.faultM = 0#4) (hact : s.tActive = false) (n : Nat) :
    runOps (List.replicate n .tmrTick) s = .next s := by
  induction n with
  | zero => rfl
  | succ n ih => rw [List.replicate_succ, runOps_cons (exec_tmrTick_of_inactive hrun hact), ih]

/-- R192's single shot, tick by tick: each tick but the last leaves a timer of one tick less. -/
theorem runOps_tmrTick (n : Nat) (hrun : s.faultM = 0#4) (hact : s.tActive = true) (hleft : 1 ≤ s.tCount)
    (hwidth : s.tCount < 2 ^ s.cfg.tcw) (hroom : s.q.length ≠ s.cfg.qdepth) :
    runOps (List.replicate n .tmrTick) s = .next
      (if n < s.tCount then { s with tCount := s.tCount - n }
       else { s with tCount := 0, tActive := false, q := s.q ++ [entryOf 4 0 s.tEpoch.toNat] }) := by
  induction n generalizing s with
  | zero => rw [if_pos (by omega)]; rfl
  | succ n ih =>
    rw [List.replicate_succ]
    by_cases hlast : s.tCount = 1
    · have htcw : 1 ≤ s.cfg.tcw := by
        rw [hlast] at hwidth
        exact Nat.pos_of_ne_zero fun h0 => by simp [h0] at hwidth
      rw [runOps_cons (exec_tmrTick_expires hrun hact hlast htcw), posted, if_neg hroom, if_neg (by omega)]
      exact runOps_tmrTick_of_inactive (s := { s with tCount := 0, tActive := false, q := _ }) hrun rfl n
    · rw [runOps_cons (exec_tmrTick_counts hrun hact (by omega) hwidth),
        ih (s := { s with tCount := s.tCount - 1 }) hrun hact (by simp; omega) (by simp; omega) hroom]
      simp only [Nat.sub_sub, Nat.add_comm 1 n, Nat.lt_sub_iff_add_lt]

/-- Two dispatches where the first entry ends the action and the second is no command: the second finds Stopped. -/
theorem runOps_two_dispatches {w₁ w₂ : EntryWord} {e₁ e₂ : Entry} (hrun : s.faultM = 0#4) (hq : s.q = [w₁, w₂])
    (hw₁ : decodeEntry w₁ = .ok e₁) (hw₂ : decodeEntry w₂ = .ok e₂)
    (hends : handleEntry e₁ { s with q := [w₂] } = ended { s with q := [w₂] }) (he₂ : ∀ c, e₂ ≠ .newCommand c) :
    runOps [.dispatch, .dispatch] s = .next (ended { s with q := [] }) := by
  have hfirst : exec .dispatch s = .next (ended { s with q := [w₂] }) := by
    rw [exec_dispatch_of_decodes hrun hq hw₁, hends]
  have hsecond : exec .dispatch (ended { s with q := [w₂] }) = .next (ended { s with q := [] }) :=
    (exec_dispatch_of_decodes (s := ended { s with q := [w₂] }) hrun rfl hw₂).trans
      (congrArg _ (handleEntry_of_stopped rfl he₂))
  rw [runOps_cons hfirst, runOps_cons hsecond, runOps]

/-- The last tick, where the queue has room. -/
theorem exec_tmrTick_posts (hrun : s.faultM = 0#4) (hact : s.tActive = true) (hlast : s.tCount = 1)
    (hwidth : 1 ≤ s.cfg.tcw) (hroom : s.q.length ≠ s.cfg.qdepth) : exec .tmrTick s = .next
      { s with tCount := 0, tActive := false, q := s.q ++ [encodeEntry (.timeout s.tEpoch)] } := by
  rw [exec_tmrTick_expires hrun hact hlast hwidth, encodeEntry_timeout, posted, if_neg hroom]

theorem exec_beaconPin_posts (hrun : s.faultM = 0#4) (hpin : s.beaconPin = false)
    (hroom : s.q.length ≠ s.cfg.qdepth) : exec (.beaconPin true) s = .next
      { s with beaconPin := true, q := s.q ++ [encodeEntry (.beaconDetected .sensor)] } := by
  rw [exec_beaconPin_of_running hrun, setBeaconPin_rises hpin, posted, if_neg hroom]
  rfl

theorem exec_tapePin_posts (hrun : s.faultM = 0#4) (hpin : s.tapePin = true)
    (hroom : s.q.length ≠ s.cfg.qdepth) : exec (.tapePin false) s = .next
      { s with tapePin := false, q := s.q ++ [encodeEntry (.tapeDetected .sensor)] } := by
  rw [exec_tapePin_of_running hrun, setTapePin_falls hpin, posted, if_neg hroom]
  rfl

/-- The signal that ends the action is queued before the last tick. -/
theorem runOps_of_signal_first {e : Entry} (hrun : s.faultM = 0#4) (hact : s.tActive = true) (hlast : s.tCount = 1)
    (hwidth : 1 ≤ s.cfg.tcw) (hdepth : 2 ≤ s.cfg.qdepth) (hq : s.q = [encodeEntry e])
    (hends : ∀ u : State, u.bState = s.bState → handleEntry e u = ended u) :
    runOps [.tmrTick, .dispatch, .dispatch] s = .next (ended { s with tCount := 0, tActive := false, q := [] }) := by
  rw [runOps_cons (exec_tmrTick_posts hrun hact hlast hwidth (by simp [hq]; omega)), hq]
  exact runOps_two_dispatches hrun rfl (decodeEntry_encodeEntry e) (decodeEntry_encodeEntry _) (hends _ rfl) (by simp)

/-- The TIMEOUT is queued before the signal. -/
theorem runOps_of_timeout_first {e : Entry} (hrun : s.faultM = 0#4) (hb : s.bState ≠ .stopped)
    (hq : s.q = [encodeEntry (.timeout s.tEpoch), encodeEntry e]) (he : ∀ c, e ≠ .newCommand c) :
    runOps [.dispatch, .dispatch] s = .next (ended { s with q := [] }) :=
  runOps_two_dispatches hrun hq (decodeEntry_encodeEntry _) (decodeEntry_encodeEntry e)
    (handleTimeout_of_valid rfl hb) he

end

/-- Settles O42: whichever entry is first ends the action, and the other finds Stopped. -/
theorem timeoutAndSensorRaceEndsAlike : Obligations.TimeoutAndSensorRaceEndsAlike := by
  intro s hrun hq hdepth hwidth hact hlast
  have hroom : s.q.length ≠ s.cfg.qdepth := by simp [hq]; omega
  have hroomAfter : (s.q ++ [encodeEntry (.timeout s.tEpoch)]).length ≠ s.cfg.qdepth := by simp [hq]; omega
  have htick := exec_tmrTick_posts hrun hact hlast hwidth hroom
  refine ⟨fun hb hpin => ⟨?_, ?_⟩, fun hb hpin => ⟨?_, ?_⟩⟩
  · rw [runOps_cons (exec_tapePin_posts hrun hpin hroom),
      runOps_of_signal_first (s := { s with tapePin := false, q := _ }) (e := .tapeDetected .sensor) hrun hact hlast
        hwidth hdepth (by simp [hq]) fun u hu => handleTape_of_searching (hu.trans hb), ← hq]
    rfl
  · rw [runOps_cons htick,
      runOps_cons (exec_tapePin_posts (s := { s with tCount := 0, tActive := false, q := _ }) hrun hpin hroomAfter),
      runOps_of_timeout_first (s := { s with tCount := 0, tActive := false, tapePin := false, q := _ })
        (e := .tapeDetected .sensor) hrun (by simp [hb]) (by simp [hq]) (by simp), ← hq]
    rfl
  · rw [runOps_cons (exec_beaconPin_posts hrun hpin hroom),
      runOps_of_signal_first (s := { s with beaconPin := true, q := _ }) (e := .beaconDetected .sensor) hrun hact hlast
        hwidth hdepth (by simp [hq]) fun u hu => handleBeacon_of_aligning (hu.trans hb), ← hq]
    rfl
  · rw [runOps_cons htick,
      runOps_cons (exec_beaconPin_posts (s := { s with tCount := 0, tActive := false, q := _ }) hrun hpin hroomAfter),
      runOps_of_timeout_first (s := { s with tCount := 0, tActive := false, beaconPin := true, q := _ })
        (e := .beaconDetected .sensor) hrun (by simp [hb]) (by simp [hq]) (by simp), ← hq]
    rfl

/-- Settles O41: what the dispatched command starts, kind by kind. -/
theorem oneDispatchStartsTheCommand : Obligations.OneDispatchStartsTheCommand := by
  intro s k rest hlegal hrun hb hact hk hq hlen
  have hroom : rest.length ≠ s.cfg.qdepth := by
    rw [hq] at hlen
    simp at hlen
    omega
  have hexec : exec .dispatch s = .next (startCommand k { s with q := rest }) := by
    rw [← encodeEntry_newCommand] at hq
    rw [exec_dispatch_of_decodes hrun hq (decodeEntry_encodeEntry _)]
    exact congrArg _ (handleNewCommand_of_stopped hb (classify_byte hlegal k))
  cases k with
  | stop => exact absurd rfl hk
  | rotCw90 | rotCw45 | rotCcw90 | rotCcw45 => exact ⟨_, hexec, by simp [startCommand, startRotation]⟩
  | fwdHalf | fwdFull | revHalf | revFull => exact ⟨_, hexec, by simp [startCommand, startDrive, hact]⟩
  | align =>
    by_cases hpin : s.beaconPin = true
    · have hstart := (startAlign_of_beacon (s := { s with q := rest }) hpin).trans (post_of_room _ hroom)
      have hword : encodeEntry (.beaconDetected .synthetic) = 0x202000#24 := rfl
      exact ⟨_, hexec.trans (congrArg _ hstart), by simp [hpin, hact, hword]⟩
    · exact ⟨_, hexec, by simp [startCommand, startAlign_of_no_beacon, hpin]⟩
  | searchTape =>
    by_cases hpin : s.tapePin = true
    · exact ⟨_, hexec, by simp [startCommand, startSearch_of_no_tape, hpin]⟩
    · have hstart :=
        (startSearch_of_tape (s := { s with q := rest }) (by simpa using hpin)).trans (post_of_room _ hroom)
      have hword : encodeEntry (.tapeDetected .synthetic) = 0x302000#24 := rfl
      exact ⟨_, hexec.trans (congrArg _ hstart), by simp [hpin, hact, hword]⟩

/-- Settles O45, by the ticks one by one. -/
theorem timerExpiresOnceOnItsLastTick : Obligations.TimerExpiresOnceOnItsLastTick := by
  intro s n hrun hact hleft hwidth hroom
  rw [runOps_tmrTick n hrun hact hleft hwidth hroom]
  exact ⟨fun hn => by rw [if_pos hn], fun hn => by rw [if_neg (by omega)]⟩

/-- Fewer than 2^12 exits after an epoch the epoch is another. -/
theorem epoch_ne_add_ofNat (ep : Epoch) {n : Nat} (h0 : 0 < n) (hn : n < 2 ^ 12) : ep ≠ ep + BitVec.ofNat 12 n := by
  intro h
  have hval := congrArg BitVec.toNat h
  have hep := ep.isLt
  rw [BitVec.toNat_add, BitVec.toNat_ofNat] at hval
  omega

/-- Settles O43: the timer is off, and the epoch of each of the next 4095 exits is another. -/
theorem noTimeoutAfterAnEarlyExit : Obligations.NoTimeoutAfterAnEarlyExit := by
  intro s i hrun hb hi
  refine ⟨ended s, (beaconEndsOnlyAnAlignment s i hi).1 hrun hb, rfl, rfl, rfl,
    runOps_tmrTick_of_inactive hrun rfl, fun u hurun n hn hepoch => ?_⟩
  have hlater : u.tEpoch = s.tEpoch + BitVec.ofNat 12 (1 + n) := by
    rw [hepoch, BitVec.ofNat_add, ← BitVec.add_assoc]
    rfl
  rw [exec_timeout, whileMotionRuns_of_running hurun,
    handleTimeout_of_stale (hlater ▸ epoch_ne_add_ofNat s.tEpoch (by omega) (by omega))]

end Sys2Proof.Machine

/-! ### What a command starts (R175 to R179) -/

namespace Sys2Proof.Machine

open Sys2Proof.Claims

/-- Everything a command can start in Stopped: STOP's zero actuation, a drive, an action with a timer, or the shortcut
of a search. -/
theorem startCommand_cases (k : CmdKind) (s : State) :
    startCommand k s = actuate .zero s ∨
    (∃ a, startCommand k s = gotoState .simpleMoving (actuate a s)) ∨
    (∃ a d b, d ∈ [s.cfg.tRot45, s.cfg.tRot90, s.cfg.tAlign, s.cfg.tSearch] ∧ b ≠ .stopped ∧
      startCommand k s = gotoState b (armTimer d (actuate a s))) ∨
    (∃ e b, (∀ tag, e ≠ .timeout tag) ∧ b ≠ .stopped ∧ startCommand k s = post e (gotoState b s)) := by
  cases k with
  | stop => exact .inl rfl
  | fwdHalf | fwdFull | revHalf | revFull => exact .inr (.inl ⟨_, rfl⟩)
  | rotCw90 | rotCw45 | rotCcw90 | rotCcw45 => exact .inr (.inr (.inl ⟨_, _, _, by simp, by simp, rfl⟩))
  | align =>
    by_cases hpin : s.beaconPin = true
    · exact .inr (.inr (.inr ⟨_, _, by simp, by simp, startAlign_of_beacon hpin⟩))
    · exact .inr (.inr (.inl ⟨_, _, _, by simp, by simp, startAlign_of_no_beacon (by simpa using hpin)⟩))
  | searchTape =>
    by_cases hpin : s.tapePin = true
    · exact .inr (.inr (.inl ⟨_, _, _, by simp, by simp, startSearch_of_no_tape hpin⟩))
    · exact .inr (.inr (.inr ⟨_, _, by simp, by simp, startSearch_of_tape (by simpa using hpin)⟩))

/-! ### The bounds of a legal configuration, and the bit of BAD_EVENT -/

/-- A legal configuration's timers fit their register and are no 0 (00_scope.md R9). -/
theorem timer_range {c : Config} (h : c.Legal) {d : Nat}
    (hd : d ∈ [c.tRot45, c.tRot90, c.tAlign, c.tSearch]) : 1 ≤ d ∧ d < 2 ^ c.tcw := by
  obtain ⟨_, _, _, _, _, ⟨h45, h90, halign, hsearch⟩, ⟨hw45, hw90, hwalign, hwsearch⟩, _⟩ := h
  simp only [List.mem_cons, List.not_mem_nil, or_false] at hd
  rcases hd with rfl | rfl | rfl | rfl
  · exact ⟨h45, hw45⟩
  · exact ⟨h90, hw90⟩
  · exact ⟨halign, hwalign⟩
  · exact ⟨hsearch, hwsearch⟩

/-- A stopped wheel is within every DUTY_MAX. -/
theorem stopped_speed_le (d : Byte) : Wheel.stopped.speed ≤ d := Nat.zero_le d.toNat

/-- Every row of the wheel table stays within DUTY_MAX (R173). -/
theorem wheels_le_dutyMax {c : Config} (h : c.Legal) (a : Action) :
    (wheels c a).1.speed ≤ c.dutyMax ∧ (wheels c a).2.speed ≤ c.dutyMax := by
  obtain ⟨_, _, _, _, _, _, _, hhalf, hfull, hrot, hspin, hsearch⟩ := h
  cases a with
  | zero => exact ⟨stopped_speed_le _, stopped_speed_le _⟩
  | rotCw90 | rotCw45 | rotCcw90 | rotCcw45 => exact ⟨hrot, hrot⟩
  | fwdHalf | revHalf => exact ⟨hhalf, hhalf⟩
  | fwdFull | revFull => exact ⟨hfull, hfull⟩
  | spin =>
    cases hdir : c.spinDir with
    | cw => simpa only [wheels_spin_of_cw hdir] using ⟨hspin, hspin⟩
    | ccw => simpa only [wheels_spin_of_ccw hdir] using ⟨hspin, hspin⟩
  | tapeSearch => exact ⟨hsearch, hsearch⟩

/-- A fault other than BAD_EVENT leaves BAD_EVENT's bit alone. -/
theorem setFault_and_badEvent {f : FaultCode} (hf : f ≠ .badEvent) (m : BitVec 4) :
    setFault f m &&& 8#4 = m &&& 8#4 := by
  cases f with
  | badEvent => exact absurd rfl hf
  | initFail | queueOverflow | captureOverrun => revert m; decide

theorem faultMAfterReset_and_badEvent (ok : Bool) : faultMAfterReset ok &&& 8#4 = 0#4 := by
  cases ok <;> decide

/-! ### The invariant along faults, posts and the link (R196) -/

namespace MachineInv

variable {s : State}

/-- The script is no part of the invariant. -/
theorem script (h : MachineInv s) (rest : List StimulusWord) : MachineInv { s with script := rest } := { h with }

theorem emit (h : MachineInv s) (o : Output) : MachineInv (emit o s) := { h with }

theorem raiseFault (h : MachineInv s) {f : FaultCode} (hf : f ≠ .badEvent) : MachineInv (raiseFault f s) :=
  { h with
    registers := by
      obtain ⟨hcnt, hval, hrc, hcount, _, _⟩ := h.registers
      exact ⟨hcnt, hval, hrc, hcount, stopped_speed_le _, stopped_speed_le _⟩
    quiet := fun hb => ⟨(h.quiet hb).1, rfl, rfl⟩
    events := (setFault_and_badEvent hf s.faultM).trans h.events }

theorem post (h : MachineInv s) (e : Entry) : MachineInv (post e s) := by
  have hqueue := post_keeps_queueCanonical e s h.queue
  rcases post_cases e s with ⟨_, hpost⟩ | ⟨_, hpost⟩ <;> rw [hpost] at hqueue ⊢
  · exact h.raiseFault (by simp)
  · exact { h with queue := hqueue }

theorem setLatch (h : MachineInv s) (v : Bool) : MachineInv (setLatch v s) := { h with }

theorem setLast (h : MachineInv s) {b : Byte} (hb : ∃ k, b = s.cfg.code.byte k) : MachineInv (setLast b s) :=
  { h with codes := ⟨h.codes.1, hb⟩ }

theorem pollerReceive (h : MachineInv s) (b : Byte) : MachineInv (pollerReceive b s) := by
  rcases pollerReceive_cases b s with ⟨_, hr⟩ | ⟨_, _, ⟨k, hk⟩, hr⟩ | ⟨_, _, _, hr⟩ | ⟨_, _, hr⟩ <;> rw [hr]
  · exact h.setLatch true
  · rcases forwardCommand_cases b s with ⟨_, hf⟩ | ⟨_, hf⟩ <;> rw [hf]
    · refine ((h.post _).setLast ⟨k, ?_⟩).setLatch false
      rw [post_cfg, classify_cmd_byte _ _ _ hk]
    · exact h.setLatch false
  · exact (h.emit _).setLatch false
  · exact h

theorem responderExchange (h : MachineInv s) : MachineInv (responderExchange s).2 := by
  rcases responderExchange_cases s with ⟨_, hex⟩ | ⟨_, b, bs, n, hex⟩ <;> rw [hex]
  · exact { h with }
  · exact { h with }

theorem acceptCommand (h : MachineInv s) (k : CmdKind) : MachineInv (acceptCommand k s) := by
  unfold Machine.acceptCommand
  split
  · exact { h with codes := ⟨⟨k, rfl⟩, h.codes.2⟩ }
  · exact h

/-! ### The invariant along the engine -/

theorem advanceCounter (h : MachineInv s) : MachineInv (advanceCounter s) :=
  { h with registers := ⟨Nat.mod_lt _ (Nat.two_pow_pos _), h.registers.2⟩ }

theorem captureEdge (h : MachineInv s) : MachineInv (captureEdge s) := by
  obtain ⟨hcnt, _, hregs⟩ := h.registers
  unfold Machine.captureEdge
  split
  · exact h.raiseFault (by simp)
  · exact { h with registers := ⟨hcnt, hcnt, hregs⟩ }

theorem countRollover (h : MachineInv s) : MachineInv (countRollover s) := by
  obtain ⟨hcnt, hval, _, hregs⟩ := h.registers
  exact { h with registers := ⟨hcnt, hval, nextRollover_lt _ _, hregs⟩ }

theorem attributeRollover (h : MachineInv s) : MachineInv (attributeRollover s) := by
  rcases attributeRollover_cases s with ⟨_, _, ha⟩ | ⟨_, ha⟩ <;> rw [ha]
  · exact { h.countRollover with }
  · exact { h with }

theorem takeSample (h : MachineInv s) (hprev : s.havePrev = true) (ts : Ticks) : MachineInv (takeSample ts s) := by
  have hsample : MachineInv
      { s with smooth := smoothed s.haveSmooth s.smooth (sampleDelta ts s.prevTs), haveSmooth := true } :=
    { h with engine := ⟨fun _ => hprev, fun hno => absurd hno (by simp)⟩ }
  rcases takeSample_cases ts s with ⟨_, ht⟩ | ⟨_, ht⟩ <;> rw [ht]
  · exact hsample.post _
  · exact hsample

theorem recordTimestamp (h : MachineInv s) (ts : Ticks) : MachineInv (recordTimestamp ts s) :=
  { h with engine := ⟨fun _ => rfl, h.engine.2⟩ }

theorem handleCapture (h : MachineInv s) : MachineInv (handleCapture s) := by
  rcases handleCapture_cases s with ⟨_, hc⟩ | ⟨hprev, hc⟩ <;> rw [hc]
  · exact h.attributeRollover.recordTimestamp _
  · exact (h.attributeRollover.takeSample (by simpa using hprev) _).recordTimestamp _

/-! ### The invariant along the timer and the sensor levels -/

theorem tickTimer (h : MachineInv s) : MachineInv (tickTimer s) := by
  obtain ⟨hcnt, hval, hrc, hcount, hwheels⟩ := h.registers
  rcases tickTimer_cases s with ⟨_, ht⟩ | ⟨_, hleft, ht⟩ | ⟨_, _, ht⟩ <;> rw [ht]
  · exact h
  · exact { h with
      registers := ⟨hcnt, hval, hrc, Nat.mod_lt _ (Nat.two_pow_pos _), hwheels⟩
      timer := fun _ => Nat.one_le_iff_ne_zero.2 hleft }
  · have hoff : MachineInv { s with tCount := 0, tActive := false } :=
      { h with
        registers := ⟨hcnt, hval, hrc, Nat.two_pow_pos _, hwheels⟩
        quiet := fun hb => ⟨rfl, (h.quiet hb).2⟩
        timer := fun hact => absurd hact (by simp) }
    exact hoff.post _

theorem setBeaconPin (h : MachineInv s) (v : Bool) : MachineInv (setBeaconPin v s) := by
  have hlevel : MachineInv { s with beaconPin := v } := { h with }
  unfold Machine.setBeaconPin
  split
  · exact hlevel.post _
  · exact hlevel

theorem setTapePin (h : MachineInv s) (v : Bool) : MachineInv (setTapePin v s) := by
  have hlevel : MachineInv { s with tapePin := v } := { h with }
  unfold Machine.setTapePin
  split
  · exact hlevel.post _
  · exact hlevel

/-! ### The invariant along the handlers -/

/-- Zero actuation is quiet in every state. -/
theorem actuate_zero (h : MachineInv s) : MachineInv (actuate .zero s) :=
  { h with
    registers := by
      obtain ⟨hcnt, hval, hrc, hcount, _, _⟩ := h.registers
      exact ⟨hcnt, hval, hrc, hcount, wheels_le_dutyMax h.legal .zero⟩
    quiet := fun hb => ⟨(h.quiet hb).1, rfl, rfl⟩ }

theorem stopAction (h : MachineInv s) : MachineInv (stopAction s) :=
  { h.actuate_zero with
    quiet := fun _ => ⟨rfl, rfl, rfl⟩
    timer := fun hact => absurd hact (by simp [Machine.stopAction]) }

/-- Out of Stopped the wheels may turn. -/
theorem gotoState_moving (h : MachineInv s) {b : BehaviorState} (hb : b ≠ .stopped) : MachineInv (gotoState b s) :=
  { h with quiet := fun hstopped => absurd hstopped hb }

theorem gotoState_actuate (h : MachineInv s) (a : Action) {b : BehaviorState} (hb : b ≠ .stopped) :
    MachineInv (gotoState b (actuate a s)) :=
  { h with
    registers := by
      obtain ⟨hcnt, hval, hrc, hcount, _, _⟩ := h.registers
      exact ⟨hcnt, hval, hrc, hcount, wheels_le_dutyMax h.legal a⟩
    quiet := fun hstopped => absurd hstopped hb }

theorem gotoState_armTimer_actuate (h : MachineInv s) (a : Action) {d : Nat} {b : BehaviorState}
    (hd : d ∈ [s.cfg.tRot45, s.cfg.tRot90, s.cfg.tAlign, s.cfg.tSearch]) (hb : b ≠ .stopped) :
    MachineInv (gotoState b (armTimer d (actuate a s))) := by
  obtain ⟨hcnt, hval, hrc, _, hwheels⟩ := (h.gotoState_actuate a hb).registers
  obtain ⟨hpos, hwidth⟩ := timer_range h.legal hd
  exact { h.gotoState_actuate a hb with
    registers := ⟨hcnt, hval, hrc, hwidth, hwheels⟩
    quiet := fun hstopped => absurd hstopped hb
    timer := fun _ => hpos }

theorem startCommand (h : MachineInv s) (k : CmdKind) : MachineInv (startCommand k s) := by
  rcases startCommand_cases k s with hs | ⟨a, hs⟩ | ⟨a, d, b, hd, hb, hs⟩ | ⟨e, b, _, hb, hs⟩ <;> rw [hs]
  · exact h.actuate_zero
  · exact h.gotoState_actuate a (by simp)
  · exact h.gotoState_armTimer_actuate a hd hb
  · exact (h.gotoState_moving hb).post e

theorem handleEntry (h : MachineInv s) (e : Entry) : MachineInv (handleEntry e s) := by
  rcases handleEntry_cases e s with he | ⟨_, he⟩ | ⟨_, c, _, he⟩ | ⟨_, _, k, _, _, he⟩ <;> rw [he]
  · exact h
  · exact h.stopAction
  · exact h.stopAction.post _
  · exact h.startCommand k

/-- DISPATCH takes a well-formed entry off a canonical queue, so that it raises no BAD_EVENT. -/
theorem dispatch (h : MachineInv s) {w : EntryWord} {rest : List EntryWord} (hq : s.q = w :: rest) :
    MachineInv (runEntryWord w { s with q := rest }) := by
  obtain ⟨hqueue, hwf, _⟩ := dequeue_keeps_queueCanonical h.queue
    (show Machine.dequeue s = some (w, { s with q := rest }) by simp [dequeue, hq])
  obtain ⟨e, he⟩ := (decodeEntry_isOk w).2 hwf
  have hrest : MachineInv { s with q := rest } := { h with queue := hqueue }
  rw [runEntryWord, he]
  exact hrest.handleEntry e

/-! ### The invariant along the resets -/

theorem draws (h : MachineInv s) (m c : List Bool) (n : Nat) :
    MachineInv { s with initOkMIn := m, initOkCIn := c, drawCount := n } := { h with }

theorem drawInitOkM (h : MachineInv s) : MachineInv (drawInitOkM s).2 := by
  rcases drawInitOkM_cases s with ⟨_, rest, _, hd⟩ | ⟨_, hd⟩ <;> rw [hd]
  · exact h.draws rest _ _
  · exact h.draws _ _ _

theorem drawInitOkC (h : MachineInv s) : MachineInv (drawInitOkC s).2 := by
  rcases drawInitOkC_cases s with ⟨_, rest, _, hd⟩ | ⟨_, hd⟩ <;> rw [hd]
  · exact h.draws _ rest _
  · exact h.draws _ _ _

theorem motionReset (h : MachineInv s) (ok : Bool) : MachineInv (motionReset ok s) where
  legal := h.legal
  registers := ⟨Nat.two_pow_pos _, Nat.two_pow_pos _, Nat.two_pow_pos _, Nat.two_pow_pos _, stopped_speed_le _,
    stopped_speed_le _⟩
  queue := ⟨Nat.zero_le _, fun _ hw => absurd hw List.not_mem_nil⟩
  quiet _ := ⟨rfl, rfl, rfl⟩
  timer hact := absurd hact (by simp [Machine.motionReset])
  engine := ⟨fun hsmooth => absurd hsmooth (by simp [Machine.motionReset]), fun _ => rfl⟩
  codes := ⟨h.codes.1, .stop, rfl⟩
  events := faultMAfterReset_and_badEvent ok

theorem commandReset (h : MachineInv s) (ok : Bool) : MachineInv (commandReset ok s) :=
  { h with codes := ⟨⟨.stop, rfl⟩, h.codes.2⟩ }

/-! ### The invariant along the instructions -/

variable {t : State} {i : Instr}

/-- A completing step of the motion chip leaves its effect. -/
theorem of_whileMotionRuns {u : State} (hu : MachineInv u) (h : whileMotionRuns s u = .next t) : MachineInv t := by
  obtain ⟨_, rfl⟩ := whileMotionRuns_next h
  exact hu

theorem exec_entry (h : MachineInv s) (hi : isEntry i = true) (hexec : exec i s = .next t) : MachineInv t := by
  obtain ⟨e, he⟩ := exec_of_isEntry hi s
  exact (h.handleEntry e).of_whileMotionRuns (he ▸ hexec)

theorem exec_linkByte (h : MachineInv s) (hi : isLinkByte i = true) (hexec : exec i s = .next t) : MachineInv t := by
  obtain ⟨b, hb⟩ := exec_of_isLinkByte hi s
  exact (h.pollerReceive b).of_whileMotionRuns (hb ▸ hexec)

/-- Every instruction keeps the invariant, by the operations it calls. -/
theorem exec (h : MachineInv s) (hexec : exec i s = .next t) : MachineInv t := by
  cases i with
  | cnt => exact h.advanceCounter.of_whileMotionRuns hexec
  | edge => exact h.captureEdge.of_whileMotionRuns hexec
  | capIsr =>
    obtain ⟨_, _, rfl⟩ := capIsr_next hexec
    exact h.handleCapture
  | ovfIsr =>
    obtain ⟨_, _, _, rfl⟩ := ovfIsr_next hexec
    exact h.countRollover
  | diag => exact (h.emit _).of_whileMotionRuns hexec
  | cmdIn k =>
    obtain rfl := cmdIn_next hexec
    exact h.acceptCommand k
  | poll => exact (h.responderExchange.pollerReceive _).of_whileMotionRuns hexec
  | pollNoisy x => exact (h.responderExchange.pollerReceive x).of_whileMotionRuns (pollNoisy_next hexec)
  | dispatch =>
    obtain ⟨_, w, rest, hq, rfl⟩ := dispatch_next hexec
    exact h.dispatch hq
  | tmrTick => exact h.tickTimer.of_whileMotionRuns hexec
  | beaconPin v => exact (h.setBeaconPin v).of_whileMotionRuns hexec
  | tapePin v => exact (h.setTapePin v).of_whileMotionRuns hexec
  | resetM =>
    obtain rfl := Host.Outcome.next.inj hexec
    exact h.drawInitOkM.motionReset _
  | resetC =>
    obtain rfl := Host.Outcome.next.inj hexec
    exact h.drawInitOkC.commandReset _
  | newCommand _ | beaconEngine | beaconSensor | beaconSynthetic | tapeSensor | tapeSynthetic | timeout _ =>
    exact h.exec_entry rfl hexec
  | _ => exact h.exec_linkByte rfl hexec

end MachineInv

/-- Settles O54: the step is the instruction that the head of the script is. -/
theorem everyStepKeepsTheInvariant : Obligations.EveryStepKeepsTheInvariant := by
  intro s t h hstep
  obtain ⟨_, rest, i, _, _, hexec⟩ := step_next hstep
  exact (h.script rest).exec hexec

end Sys2Proof.Machine

/-! ### The true exits (R197)

A stimulus other than DISPATCH leaves the Behavior State as it is and posts at most one entry, a TIMEOUT only from a
running timer. DISPATCH takes the head off, handles it, and posts at most one entry that is no TIMEOUT. -/

namespace Sys2Proof.Machine

open Sys2Proof.Claims

/-- What a stimulus other than DISPATCH can make of the queue of `s`: it stays, or one entry is posted, which, if it is a
TIMEOUT, carries the present epoch and comes from an active timer. -/
inductive PostsAtMostOne (s : State) (q : List EntryWord) : Prop where
  | none (h : q = s.q)
  | one (e : Entry) (room : s.q.length ≠ s.cfg.qdepth) (h : q = s.q ++ [encodeEntry e])
      (timeout : ∀ tag, e = .timeout tag → s.tActive = true ∧ tag = s.tEpoch)

section
variable {s t u : State} {i : Instr}

/-- A post, from a state with the queue of `s`. -/
theorem PostsAtMostOne.of_post {e : Entry} (hq : u.q = s.q) (hcfg : u.cfg = s.cfg)
    (he : ∀ tag, e = .timeout tag → s.tActive = true ∧ tag = s.tEpoch) : PostsAtMostOne s (post e u).q := by
  rcases post_cases e u with ⟨_, h⟩ | ⟨hroom, h⟩ <;> rw [h]
  · exact .none hq
  · exact .one e (by rwa [← hq, ← hcfg]) (by rw [hq]) he

theorem pollerReceive_postsAtMostOne (b : Byte) (hq : u.q = s.q) (hcfg : u.cfg = s.cfg) :
    PostsAtMostOne s (pollerReceive b u).q := by
  rcases pollerReceive_cases b u with ⟨_, h⟩ | ⟨_, _, _, h⟩ | ⟨_, _, _, h⟩ | ⟨_, _, h⟩ <;> rw [h]
  · exact .none hq
  · rcases forwardCommand_cases b u with ⟨_, hf⟩ | ⟨_, hf⟩ <;> rw [hf]
    · exact .of_post hq hcfg (by simp)
    · exact .none hq
  · exact .none hq
  · exact .none hq

theorem responderExchange_postsAtMostOne (b : Byte) (s : State) :
    PostsAtMostOne s (pollerReceive b (responderExchange s).2).q := by
  rcases responderExchange_cases s with ⟨_, h⟩ | ⟨_, _, _, _, h⟩ <;> rw [h]
  · exact pollerReceive_postsAtMostOne b rfl rfl
  · exact pollerReceive_postsAtMostOne b rfl rfl

theorem handleCapture_postsAtMostOne (s : State) : PostsAtMostOne s (handleCapture s).q := by
  rcases handleCapture_cases s with ⟨_, h⟩ | ⟨_, h⟩ <;> rw [h, recordTimestamp_q]
  · exact .none (attributeRollover_q s)
  · rcases takeSample_cases (captureTimestamp s) (attributeRollover s) with ⟨_, ht⟩ | ⟨_, ht⟩ <;> rw [ht]
    · exact .of_post (attributeRollover_q s) (attributeRollover_cfg s) (by simp)
    · exact .none (attributeRollover_q s)

theorem tickTimer_postsAtMostOne (s : State) : PostsAtMostOne s (tickTimer s).q := by
  rcases tickTimer_cases s with ⟨_, h⟩ | ⟨_, _, h⟩ | ⟨hact, _, h⟩ <;> rw [h]
  · exact .none rfl
  · exact .none rfl
  · exact .of_post rfl rfl fun tag htag => ⟨hact, (Entry.timeout.inj htag).symm⟩

theorem setBeaconPin_postsAtMostOne (v : Bool) (s : State) : PostsAtMostOne s (setBeaconPin v s).q := by
  unfold setBeaconPin
  split
  · exact .of_post rfl rfl (by simp)
  · exact .none rfl

theorem setTapePin_postsAtMostOne (v : Bool) (s : State) : PostsAtMostOne s (setTapePin v s).q := by
  unfold setTapePin
  split
  · exact .of_post rfl rfl (by simp)
  · exact .none rfl

/-- The link bytes, as the Poller receives them. -/
theorem linkByte_postsAtMostOne (hi : isLinkByte i = true) (h : exec i s = .next t) : PostsAtMostOne s t.q := by
  obtain ⟨b, hb⟩ := exec_of_isLinkByte hi s
  obtain ⟨_, rfl⟩ := whileMotionRuns_next (hb ▸ h)
  exact pollerReceive_postsAtMostOne b rfl rfl

/-- Every instruction but DISPATCH, RESET_M and the entries themselves posts at most one entry. -/
theorem exec_postsAtMostOne (h : exec i s = .next t) (hdispatch : i ≠ .dispatch) (hreset : i ≠ .resetM)
    (hentry : isEntry i = false) : PostsAtMostOne s t.q := by
  have hsilent (hpost : canPost i = false) : PostsAtMostOne s t.q := by
    have hqueue := (exec_changesOnly_writers h).within .queue
    exact .none (by simpa [hpost, hdispatch, hreset] using hqueue)
  cases i with
  | capIsr =>
    obtain ⟨_, _, rfl⟩ := capIsr_next h
    exact handleCapture_postsAtMostOne s
  | poll =>
    obtain ⟨_, rfl⟩ := whileMotionRuns_next h
    exact responderExchange_postsAtMostOne _ s
  | pollNoisy x =>
    obtain ⟨_, rfl⟩ := whileMotionRuns_next (pollNoisy_next h)
    exact responderExchange_postsAtMostOne x s
  | tmrTick =>
    obtain ⟨_, rfl⟩ := whileMotionRuns_next h
    exact tickTimer_postsAtMostOne s
  | beaconPin v =>
    obtain ⟨_, rfl⟩ := whileMotionRuns_next h
    exact setBeaconPin_postsAtMostOne v s
  | tapePin v =>
    obtain ⟨_, rfl⟩ := whileMotionRuns_next h
    exact setTapePin_postsAtMostOne v s
  | cnt | edge | ovfIsr | diag | cmdIn _ | resetC => exact hsilent rfl
  | dispatch => exact absurd rfl hdispatch
  | resetM => exact absurd rfl hreset
  | newCommand _ | beaconEngine | beaconSensor | beaconSynthetic | tapeSensor | tapeSynthetic | timeout _ =>
    exact absurd hentry (by simp [isEntry])
  | _ => exact linkByte_postsAtMostOne rfl h

/-- A tick starts no timer, and nothing else but a handler or a reset writes the timer. -/
theorem exec_tActive (h : exec i s = .next t) (hdispatch : i ≠ .dispatch) (hreset : i ≠ .resetM)
    (hentry : isEntry i = false) (hact : t.tActive = true) : s.tActive = true := by
  by_cases htick : i = .tmrTick
  · subst htick
    obtain ⟨_, rfl⟩ := whileMotionRuns_next h
    rcases tickTimer_cases s with ⟨_, ht⟩ | ⟨hs, _, _⟩ | ⟨hs, _, _⟩
    · rwa [ht] at hact
    · exact hs
    · exact hs
  · have htimer := (exec_changesOnly_writers h).within .timer
    obtain ⟨hsame, _⟩ : t.tActive = s.tActive ∧ t.tCount = s.tCount := by
      simpa [hdispatch, hreset, hentry, htick] using htimer
    rwa [← hsame]

/-- An event entry is no stimulus. -/
theorem isEntry_of_decodeStimulus {ln : Bool} {w : StimulusWord} (h : decodeStimulus ln w = .ok i) :
    isEntry i = false := by
  have hword := encode_of_decodeStimulus h Config.rc1
  cases i with
  | newCommand _ | beaconEngine | beaconSensor | beaconSynthetic | tapeSensor | tapeSynthetic | timeout _ => cases hword
  | _ => rfl

/-! ### What a dispatched entry does to the state -/

/-- From `s` to `u` an entry is handled, its own posts apart: either the state is left for Stopped with the next epoch
and the timer off, or it is not left, and Stopped stays as quiet as it was. -/
structure Handled (s u : State) : Prop where
  cfg : u.cfg = s.cfg
  q : u.q = s.q
  exit : (s.bState ≠ .stopped ∧ u.bState = .stopped ∧ u.tEpoch = s.tEpoch + 1#12 ∧ u.tActive = false) ∨
    ((u.bState = .stopped → s.bState = .stopped ∧ u.tActive = s.tActive) ∧ u.tEpoch = s.tEpoch)

/-- `t` is `u` or `u` with one entry posted that is no TIMEOUT. -/
def PostedSignal (u t : State) : Prop := t = u ∨ ∃ e, (∀ tag, e ≠ .timeout tag) ∧ t = post e u

theorem Handled.stopAction (hb : s.bState ≠ .stopped) : Handled s (stopAction s) :=
  ⟨rfl, rfl, .inl ⟨hb, rfl, rfl, rfl⟩⟩

/-- A state other than Stopped is entered, whatever the wheels and the timer do. -/
theorem Handled.of_moving (hcfg : u.cfg = s.cfg) (hq : u.q = s.q) (hb : u.bState ≠ .stopped)
    (hepoch : u.tEpoch = s.tEpoch) : Handled s u :=
  ⟨hcfg, hq, .inr ⟨fun h => absurd h hb, hepoch⟩⟩

/-- Stopped and its timer stay. -/
theorem Handled.of_same (hcfg : u.cfg = s.cfg) (hq : u.q = s.q) (hb : u.bState = s.bState)
    (hact : u.tActive = s.tActive) (hepoch : u.tEpoch = s.tEpoch) : Handled s u :=
  ⟨hcfg, hq, .inr ⟨fun h => ⟨hb ▸ h, hact⟩, hepoch⟩⟩

theorem startCommand_handled (k : CmdKind) (s : State) :
    ∃ u, Handled s u ∧ PostedSignal u (startCommand k s) := by
  rcases startCommand_cases k s with h | ⟨a, h⟩ | ⟨a, d, b, _, hb, h⟩ | ⟨e, b, he, hb, h⟩ <;> rw [h]
  · exact ⟨actuate .zero s, .of_same rfl rfl rfl rfl rfl, .inl rfl⟩
  · exact ⟨gotoState .simpleMoving (actuate a s), .of_moving rfl rfl (by simp) rfl, .inl rfl⟩
  · exact ⟨gotoState b (armTimer d (actuate a s)), .of_moving rfl rfl hb rfl, .inl rfl⟩
  · exact ⟨gotoState b s, .of_moving rfl rfl hb rfl, .inr ⟨e, he, rfl⟩⟩

theorem handleEntry_handled (e : Entry) (s : State) : ∃ u, Handled s u ∧ PostedSignal u (handleEntry e s) := by
  rcases handleEntry_cases e s with h | ⟨hb, h⟩ | ⟨hb, c, _, h⟩ | ⟨_, _, k, _, _, h⟩ <;> rw [h]
  · exact ⟨s, .of_same rfl rfl rfl rfl rfl, .inl rfl⟩
  · exact ⟨_, .stopAction hb, .inl rfl⟩
  · exact ⟨stopAction s, .stopAction hb, .inr ⟨.newCommand c, by simp, rfl⟩⟩
  · exact startCommand_handled k s

theorem runEntryWord_handled (w : EntryWord) (s : State) :
    ∃ u, Handled s u ∧ PostedSignal u (runEntryWord w s) := by
  unfold runEntryWord
  split
  · exact handleEntry_handled _ s
  · exact ⟨raiseFault .badEvent s, .of_same rfl rfl rfl rfl rfl, .inl rfl⟩

end

/-! ### The history along a post, along a dequeue, and along a stimulus -/

theorem getElem?_concat_eq_some {α : Type} {l : List α} {x y : α} {j : Nat} :
    (l ++ [x])[j]? = some y ↔ l[j]? = some y ∨ (j = l.length ∧ x = y) := by
  grind

namespace ExitsTrue

variable {s t u : State} {g : Exits} {i : Instr}

/-- The history speaks of the configuration, the epoch, the queue, and of Stopped with its timer only. -/
theorem frame (hg : ExitsTrue s g) (hcfg : t.cfg = s.cfg) (hq : t.q = s.q) (hepoch : t.tEpoch = s.tEpoch)
    (hb : t.bState = s.bState) (hact : t.tActive = true → s.tActive = true) : ExitsTrue t g where
  depth := hcfg ▸ hg.depth
  bounded := by rw [hq, hcfg]; exact hg.bounded
  epoch := by rw [hepoch]; exact hg.epoch
  parallel := by rw [hq]; exact hg.parallel
  quiet hstopped := by
    have hoff := hg.quiet (hb ▸ hstopped)
    exact Bool.eq_false_iff.2 fun ht => by simp [hact ht] at hoff
  recent := by rw [hcfg]; exact hg.recent
  tags := by rw [hq, hb]; exact hg.tags

/-- An entry is posted: no exit lies between, and a TIMEOUT is posted out of Stopped with the present epoch. -/
theorem post (hg : ExitsTrue s g) {e : Entry} (hroom : s.q.length ≠ s.cfg.qdepth)
    (he : ∀ tag, e = .timeout tag → s.bState ≠ .stopped ∧ tag = s.tEpoch) :
    ExitsTrue { s with q := s.q ++ [encodeEntry e] } { g with posted := g.posted ++ [g.count] } where
  depth := hg.depth
  bounded := by
    have := hg.bounded
    simp
    omega
  epoch := hg.epoch
  parallel := by simp [hg.parallel]
  quiet := hg.quiet
  recent j n hn := by
    rcases getElem?_concat_eq_some.1 hn with hold | ⟨rfl, rfl⟩
    · exact hg.recent j n hold
    · have hlen := hg.parallel
      have hbound := hg.bounded
      dsimp only
      omega
  tags j w n hw hn tag htag := by
    rcases getElem?_concat_eq_some.1 hw with hold | ⟨hj, rfl⟩ <;>
      rcases getElem?_concat_eq_some.1 hn with hold' | ⟨hj', rfl⟩
    · exact hg.tags j w n hold hold' tag htag
    · have hlt := (List.getElem?_eq_some_iff.1 hold).1
      exact absurd hg.parallel (by omega)
    · have hlt := (List.getElem?_eq_some_iff.1 hold').1
      exact absurd hg.parallel (by omega)
    · rw [decodeEntry_encodeEntry] at htag
      obtain ⟨hb, rfl⟩ := he tag (Except.ok.inj htag)
      exact ⟨hg.epoch, fun _ => hb⟩

/-- The head is taken off, and at most one exit happens, which no entry that is left can follow. -/
theorem dequeue (hg : ExitsTrue s g) {w : EntryWord} {c : Nat} (hq : s.q = w :: u.q) (hcfg : u.cfg = s.cfg)
    (hc : c = g.count ∧ (u.bState = .stopped → s.bState = .stopped) ∨ c = g.count + 1)
    (hepoch : u.tEpoch.toNat = c % 2 ^ 12) (hquiet : u.bState = .stopped → u.tActive = false) :
    ExitsTrue u { count := c, posted := g.posted.tail } where
  depth := hcfg ▸ hg.depth
  bounded := by
    have hbound := hg.bounded
    rw [hq, List.length_cons, ← hcfg] at hbound
    omega
  epoch := hepoch
  parallel := by simp [hg.parallel, hq]
  quiet := hquiet
  recent j n hn := by
    rw [List.getElem?_tail] at hn
    have hrecent := hg.recent (j + 1) n hn
    rw [hcfg]
    dsimp only
    omega
  tags j w' n hw hn tag htag := by
    rw [List.getElem?_tail] at hn
    obtain ⟨hvalue, hmoving⟩ := hg.tags (j + 1) w' n (by rw [hq, List.getElem?_cons_succ, hw]) hn tag htag
    refine ⟨hvalue, fun hnow hstopped => ?_⟩
    rcases hc with ⟨rfl, hstay⟩ | rfl
    · exact hmoving hnow (hstay hstopped)
    · have hlater : n = g.count + 1 := hnow
      have hpast := (hg.recent (j + 1) n hn).1
      omega

/-- A handled entry: the exit counts where the state is left. -/
theorem handled (hg : ExitsTrue s g) {w : EntryWord} {rest : List EntryWord} (hq : s.q = w :: rest)
    (hu : Handled { s with q := rest } u) :
    ExitsTrue u
      { count := if s.bState ≠ .stopped ∧ u.bState = .stopped then g.count + 1 else g.count
        posted := g.posted.tail } := by
  have hqu : s.q = w :: u.q := by rw [hq, hu.q]
  have hnow := hg.epoch
  rcases hu.exit with ⟨hb, hub, hepoch, hact⟩ | ⟨hstay, hepoch⟩
  · rw [if_pos ⟨hb, hub⟩]
    refine hg.dequeue hqu hu.cfg (.inr rfl) ?_ fun _ => hact
    rw [hepoch, BitVec.toNat_add, hnow]
    simp
  · rw [if_neg fun h => h.1 (hstay h.2).1]
    refine hg.dequeue hqu hu.cfg (.inl ⟨rfl, fun h => (hstay h).1⟩) (by rw [hepoch, hnow]) fun h => ?_
    obtain ⟨hstopped, hsame⟩ := hstay h
    exact hsame.trans (hg.quiet hstopped)

theorem after_dispatch (hg : ExitsTrue s g) (h : exec .dispatch s = .next t) :
    ExitsTrue t (g.after s .dispatch t) := by
  obtain ⟨_, w, rest, hq, rfl⟩ := dispatch_next h
  obtain ⟨u, hu, hposted⟩ := runEntryWord_handled w { s with q := rest }
  have hlen : s.q.length = u.q.length + 1 := by rw [hq, hu.q, List.length_cons]
  have hpopped := hg.handled hq hu
  rcases hposted with ht | ⟨e, he, ht⟩ <;> rw [ht]
  · simpa [Exits.after, hlen] using hpopped
  · have hroom : u.q.length ≠ u.cfg.qdepth := by
      have hbound := hg.bounded
      rw [hu.cfg]
      dsimp only
      omega
    rw [post_of_room e hroom]
    simpa [Exits.after, hlen] using hpopped.post hroom fun tag htag => absurd htag (he tag)

/-- The motion chip's reset starts the history again (70_reset_and_hazards.md R260). -/
theorem after_resetM (hg : ExitsTrue s g) (h : exec .resetM s = .next t) : ExitsTrue t (g.after s .resetM t) := by
  have hcfg := (exec_changesOnly_writers h).cfg
  obtain rfl := Host.Outcome.next.inj h
  exact {
    depth := hcfg ▸ hg.depth
    bounded := Nat.zero_le _
    epoch := rfl
    parallel := rfl
    quiet := fun _ => rfl
    recent := by simp [Exits.after]
    tags := by simp [Exits.after] }

/-- Every other stimulus: no exit, and at most one post. -/
theorem after_stimulus (hg : ExitsTrue s g) (h : exec i s = .next t) (hdispatch : i ≠ .dispatch)
    (hreset : i ≠ .resetM) (hentry : isEntry i = false) : ExitsTrue t (g.after s i t) := by
  have hcfg := (exec_changesOnly_writers h).cfg
  obtain ⟨hb, hepoch⟩ : t.bState = s.bState ∧ t.tEpoch = s.tEpoch := by
    simpa [hdispatch, hreset, hentry] using (exec_changesOnly_writers h).within .behavior
  have htimer := exec_tActive h hdispatch hreset hentry
  have hstay : ExitsTrue { t with q := s.q } g := hg.frame hcfg rfl hepoch hb htimer
  cases exec_postsAtMostOne h hdispatch hreset hentry with
  | none hq =>
    have hhistory : g.after s i t = g := by simp [Exits.after, hdispatch, hreset, hq]
    rw [← hq] at hstay
    rw [hhistory]
    exact hstay
  | one e room hq htimeout =>
    have hposted := hstay.post (e := e) (by rw [hcfg]; exact room) fun tag htag => by
      obtain ⟨hact, rfl⟩ := htimeout tag htag
      exact ⟨fun hstopped => by simp [hg.quiet (hb ▸ hstopped)] at hact, hepoch.symm⟩
    have hhistory : g.after s i t = { g with posted := g.posted ++ [g.count] } := by
      simp [Exits.after, hdispatch, hreset, hq]
    dsimp only at hposted
    rw [← hq] at hposted
    rw [hhistory]
    exact hposted

end ExitsTrue

/-- Settles O56: DISPATCH, RESET_M, and every other stimulus. -/
theorem everyStepKeepsTheExitsTrue : Obligations.EveryStepKeepsTheExitsTrue := by
  intro s t w rest i g hg hs hi hstep
  rw [step_of_decodes hs hi] at hstep
  have hg' : ExitsTrue { s with script := rest } g := hg.frame rfl rfl rfl rfl id
  by_cases hdispatch : i = .dispatch
  · subst hdispatch
    exact hg'.after_dispatch hstep
  · by_cases hreset : i = .resetM
    · subst hreset
      exact hg'.after_resetM hstep
    · exact hg'.after_stimulus hstep hdispatch hreset (isEntry_of_decodeStimulus hi)

/-- Settles O57: the tag is the epoch of the posting, and fewer than 2^12 exits ago the epoch was another unless there
was none. -/
theorem timeoutsActExactlyWithoutAnExitSince : Obligations.TimeoutsActExactlyWithoutAnExitSince := by
  intro s g w rest tag n ns hg hrun hq hw hposted
  have hhead : g.posted[0]? = some n := by simp [hposted]
  obtain ⟨hvalue, hmoving⟩ := hg.tags 0 w n (by simp [hq]) hhead tag hw
  obtain ⟨hpast, hrecent⟩ := hg.recent 0 n hhead
  have hepoch := hg.epoch
  have hdepth := hg.depth
  rw [exec_dispatch_of_decodes hrun hq hw]
  refine ⟨fun hnow => ?_, fun hexit => ?_⟩
  · have htag : tag = s.tEpoch := BitVec.eq_of_toNat_eq (by rw [hvalue, hepoch, hnow])
    exact congrArg _ (handleTimeout_of_valid htag (hmoving hnow))
  · have htag : tag ≠ s.tEpoch := fun heq => by
      rw [heq, hepoch] at hvalue
      omega
    exact congrArg _ (handleTimeout_of_stale htag)

end Sys2Proof.Machine

/-! ## Exceptions (60_exceptions.md)

Which instructions a halted chip refuses; then what an operation that can post makes of the queue and of FAULT_M, from
which both the causes of the faults and the safety of DISPATCH are read off; then the command chip, which no operation
of the motion chip writes and no register of the motion chip feeds. -/

namespace Sys2Proof.Machine

open Sys2Proof.Claims

/-! ### Halted chips (R229) -/

section
variable {s t : State} {i : Instr}

theorem exec_capIsr_of_halted (hhalt : s.faultM ≠ 0#4) : exec .capIsr s = .fault .motionHalted := by
  simp [exec, execCapIsr, hhalt]

theorem exec_ovfIsr_of_halted (hhalt : s.faultM ≠ 0#4) : exec .ovfIsr s = .fault .motionHalted := by
  simp [exec, execOvfIsr, hhalt]

/-- A halted motion chip enables nothing of its own but its reset. -/
theorem exec_of_motionHalted (hhalt : s.faultM ≠ 0#4) (hresetM : i ≠ .resetM) (hresetC : i ≠ .resetC)
    (hcmd : isCmdIn i = false) : exec i s = .fault .motionHalted := by
  cases i with
  | cmdIn k => cases hcmd
  | resetM => exact absurd rfl hresetM
  | resetC => exact absurd rfl hresetC
  | capIsr => exact exec_capIsr_of_halted hhalt
  | ovfIsr => exact exec_ovfIsr_of_halted hhalt
  | pollNoisy x => exact exec_pollNoisy_of_halted hhalt
  | dispatch => exact exec_dispatch_of_halted hhalt
  | _ => exact whileMotionRuns_of_halted hhalt _

/-- FAULT_M after a reset is 0 or INIT_FAIL (70_reset_and_hazards.md R260). -/
theorem faultMAfterReset_cases (ok : Bool) : faultMAfterReset ok = 0#4 ∨ faultMAfterReset ok = 1#4 := by
  cases ok with
  | false => exact .inr rfl
  | true => exact .inl rfl

/-- Only a post, EDGE, DISPATCH and RESET_M write FAULT_M. -/
theorem exec_faultM (h : exec i s = .next t) (hpost : canPost i = false) (hdispatch : i ≠ .dispatch)
    (hedge : i ≠ .edge) (hreset : i ≠ .resetM) : t.faultM = s.faultM := by
  have hactuation := (exec_changesOnly_writers h).within .actuation
  obtain ⟨_, _, hfault⟩ : t.actL = s.actL ∧ t.actR = s.actR ∧ t.faultM = s.faultM := by
    simpa [hpost, hdispatch, hedge, hreset] using hactuation
  exact hfault

end

/-- Settles O50: a halted chip's instructions by their enabling conditions, the resets by what they leave in FAULT_M. -/
theorem haltedChipsTakeNoStepButReset : Obligations.HaltedChipsTakeNoStepButReset := by
  intro s
  exact ⟨fun hhalt i hresetM hresetC hcmd => exec_of_motionHalted hhalt hresetM hresetC hcmd,
    fun hhaltC k => exec_cmdIn_of_halted hhaltC,
    fun hrunC k => ⟨_, exec_cmdIn_of_running hrunC⟩,
    ⟨_, rfl, faultMAfterReset_cases _⟩,
    ⟨_, rfl, exec_faultM (i := .resetC) rfl rfl (by simp) (by simp) (by simp)⟩⟩

/-! ### What a post makes of the queue and of FAULT_M (20_memory.md R62, R225, R226) -/

/-- The wheels are stopped and the last output says so (R225). -/
structure WheelsStopped (t : State) : Prop where
  actL : t.actL = still
  actR : t.actR = still
  out : ∃ o, t.out = o ++ [.actuate still still]

theorem faulted_wheelsStopped (bit : BitVec 4) (s : State) : WheelsStopped (faulted bit s) := ⟨rfl, rfl, s.out, rfl⟩

/-- The first fault is the one bit set. -/
theorem faulted_faultM {s : State} (hrun : s.faultM = 0#4) (bit : BitVec 4) : (faulted bit s).faultM = bit := by
  simp [faulted, hrun]

/-- From `s` to `t` at most one entry is posted, and the only fault raised is that post's, into a full queue. -/
inductive PostsOrOverflows (s t : State) : Prop where
  | silent (q : t.q = s.q) (faultM : t.faultM = s.faultM)
  | posted (e : Entry) (q : t.q = s.q ++ [encodeEntry e]) (room : s.q.length ≠ s.cfg.qdepth)
      (faultM : t.faultM = s.faultM)
  | overflowed (q : t.q = s.q) (full : s.q.length = s.cfg.qdepth) (faultM : t.faultM = s.faultM ||| 2#4)
      (wheels : WheelsStopped t)

namespace PostsOrOverflows

variable {s t u : State}

theorem refl (s : State) : PostsOrOverflows s s := .silent rfl rfl

theorem post (e : Entry) (s : State) : PostsOrOverflows s (post e s) := by
  rcases post_cases e s with ⟨hfull, h⟩ | ⟨hroom, h⟩ <;> rw [h]
  · exact .overflowed rfl hfull rfl (faulted_wheelsStopped 2#4 s)
  · exact .posted e rfl hroom rfl

/-- What comes before may write every register that neither decides a post nor reports its fault. -/
theorem after (h : PostsOrOverflows u t) (hq : u.q = s.q) (hcfg : u.cfg = s.cfg) (hfault : u.faultM = s.faultM) :
    PostsOrOverflows s t := by
  cases h with
  | silent q faultM => exact .silent (q.trans hq) (faultM.trans hfault)
  | posted e q room faultM => exact .posted e (hq ▸ q) (hq ▸ hcfg ▸ room) (faultM.trans hfault)
  | overflowed q full faultM wheels => exact .overflowed (q.trans hq) (hq ▸ hcfg ▸ full) (hfault ▸ faultM) wheels

/-- What comes after may write every register but those. -/
theorem before (h : PostsOrOverflows s t) (hq : u.q = t.q) (hfault : u.faultM = t.faultM) (hactL : u.actL = t.actL)
    (hactR : u.actR = t.actR) (hout : u.out = t.out) : PostsOrOverflows s u := by
  cases h with
  | silent q faultM => exact .silent (hq.trans q) (hfault.trans faultM)
  | posted e q room faultM => exact .posted e (hq.trans q) room (hfault.trans faultM)
  | overflowed q full faultM wheels =>
    exact .overflowed (hq.trans q) full (hfault.trans faultM)
      ⟨hactL.trans wheels.actL, hactR.trans wheels.actR, hout ▸ wheels.out⟩

theorem pollerReceive (b : Byte) (s : State) : PostsOrOverflows s (pollerReceive b s) := by
  rcases pollerReceive_cases b s with ⟨_, h⟩ | ⟨_, _, _, h⟩ | ⟨_, _, _, h⟩ | ⟨_, _, h⟩ <;> rw [h]
  · exact .silent rfl rfl
  · rcases forwardCommand_cases b s with ⟨_, hf⟩ | ⟨_, hf⟩ <;> rw [hf]
    · exact (post (.newCommand b) s).before rfl rfl rfl rfl rfl
    · exact .silent rfl rfl
  · exact .silent rfl rfl
  · exact .refl s

/-- POLL and POLL_NOISY: the exchange writes none of the registers that decide a post. -/
theorem exchange_receive (b : Byte) (s : State) :
    PostsOrOverflows s (Machine.pollerReceive b (responderExchange s).2) := by
  rcases responderExchange_cases s with ⟨_, h⟩ | ⟨_, _, _, _, h⟩ <;> rw [h]
  · exact (pollerReceive b _).after rfl rfl rfl
  · exact (pollerReceive b _).after rfl rfl rfl

theorem handleCapture (s : State) : PostsOrOverflows s (handleCapture s) := by
  rcases handleCapture_cases s with ⟨_, h⟩ | ⟨_, h⟩ <;> rw [h]
  · exact .silent (attributeRollover_q s) (attributeRollover_faultM s)
  · rcases takeSample_cases (captureTimestamp s) (attributeRollover s) with ⟨_, ht⟩ | ⟨_, ht⟩ <;> rw [ht]
    · rw [recordTimestamp_post]
      exact (post (.beaconDetected .engine) _).after (attributeRollover_q s) (attributeRollover_cfg s)
        (attributeRollover_faultM s)
    · exact .silent (attributeRollover_q s) (attributeRollover_faultM s)

theorem tickTimer (s : State) : PostsOrOverflows s (tickTimer s) := by
  rcases tickTimer_cases s with ⟨_, h⟩ | ⟨_, _, h⟩ | ⟨_, _, h⟩ <;> rw [h]
  · exact .refl s
  · exact .silent rfl rfl
  · exact (post (.timeout s.tEpoch) _).after rfl rfl rfl

theorem setBeaconPin (v : Bool) (s : State) : PostsOrOverflows s (setBeaconPin v s) := by
  unfold Machine.setBeaconPin
  split
  · exact (post (.beaconDetected .sensor) _).after rfl rfl rfl
  · exact .silent rfl rfl

theorem setTapePin (v : Bool) (s : State) : PostsOrOverflows s (setTapePin v s) := by
  unfold Machine.setTapePin
  split
  · exact (post (.tapeDetected .sensor) _).after rfl rfl rfl
  · exact .silent rfl rfl

theorem startCommand (k : CmdKind) (s : State) : PostsOrOverflows s (startCommand k s) := by
  rcases startCommand_cases k s with h | ⟨a, h⟩ | ⟨a, d, b, _, _, h⟩ | ⟨e, b, _, _, h⟩ <;> rw [h]
  · exact .silent rfl rfl
  · exact .silent rfl rfl
  · exact .silent rfl rfl
  · exact (post e _).after rfl rfl rfl

theorem handleEntry (e : Entry) (s : State) : PostsOrOverflows s (handleEntry e s) := by
  rcases handleEntry_cases e s with h | ⟨_, h⟩ | ⟨_, c, _, h⟩ | ⟨_, _, k, _, _, h⟩ <;> rw [h]
  · exact .refl s
  · exact .silent rfl rfl
  · exact (post (.newCommand c) (stopAction s)).after rfl rfl rfl
  · exact startCommand k s

/-- Every instruction that can post does no more than that. -/
theorem of_canPost {i : Instr} (hpost : canPost i = true) (h : exec i s = .next t) : PostsOrOverflows s t := by
  simp only [canPost, Bool.or_eq_true, beq_iff_eq] at hpost
  rcases hpost with ((((rfl | rfl) | hpoll) | hpin) | hentry) | hlink
  · obtain ⟨_, _, rfl⟩ := capIsr_next h
    exact handleCapture s
  · obtain ⟨_, rfl⟩ := whileMotionRuns_next h
    exact tickTimer s
  · cases i with
    | poll =>
      obtain ⟨_, rfl⟩ := whileMotionRuns_next h
      exact exchange_receive _ s
    | pollNoisy x =>
      obtain ⟨_, rfl⟩ := whileMotionRuns_next (pollNoisy_next h)
      exact exchange_receive x s
    | _ => cases hpoll
  · cases i with
    | beaconPin v =>
      obtain ⟨_, rfl⟩ := whileMotionRuns_next h
      exact setBeaconPin v s
    | tapePin v =>
      obtain ⟨_, rfl⟩ := whileMotionRuns_next h
      exact setTapePin v s
    | _ => cases hpin
  · obtain ⟨e, he⟩ := exec_of_isEntry hentry s
    obtain ⟨_, rfl⟩ := whileMotionRuns_next (he ▸ h)
    exact handleEntry e s
  · obtain ⟨b, hb⟩ := exec_of_isLinkByte hlink s
    obtain ⟨_, rfl⟩ := whileMotionRuns_next (hb ▸ h)
    exact pollerReceive b s

/-- Where there is room for one entry, none overflows. -/
theorem of_room (h : PostsOrOverflows s t) (hroom : s.q.length ≠ s.cfg.qdepth) :
    t.faultM = s.faultM ∧ (t.q = s.q ∨ ∃ e, t.q = s.q ++ [encodeEntry e]) := by
  cases h with
  | silent q faultM => exact ⟨faultM, .inl q⟩
  | posted e q _ faultM => exact ⟨faultM, .inr ⟨e, q⟩⟩
  | overflowed _ full => exact absurd full hroom

end PostsOrOverflows

/-- A handled head leaves the room for what its handler posts (R242). -/
theorem handleEntry_after_dequeue {s : State} {w : EntryWord} {rest : List EntryWord} (hq : s.q = w :: rest)
    (hlen : s.q.length ≤ s.cfg.qdepth) (e : Entry) :
    (handleEntry e { s with q := rest }).faultM = s.faultM ∧
      ((handleEntry e { s with q := rest }).q = rest ∨
        ∃ e', (handleEntry e { s with q := rest }).q = rest ++ [encodeEntry e']) := by
  have hroom : rest.length ≠ s.cfg.qdepth := by
    rw [hq, List.length_cons] at hlen
    omega
  exact (PostsOrOverflows.handleEntry e { s with q := rest }).of_room hroom

/-- Settles O40: the head decodes, and its handler posts at most one entry into the place that the head has left. -/
theorem dispatchNeverOverflows : Obligations.DispatchNeverOverflows := by
  intro s w rest hrun hq hwf hlen
  obtain ⟨e, he⟩ := (decodeEntry_isOk w).2 hwf
  obtain ⟨hfault, hqueue⟩ := handleEntry_after_dequeue hq hlen e
  rw [hq, List.length_cons] at hlen
  refine ⟨_, exec_dispatch_of_decodes hrun hq he, hfault.trans hrun, ?_⟩
  rcases hqueue with h | ⟨e', h⟩ <;> rw [h]
  · exact ⟨by omega, .inl rfl⟩
  · exact ⟨by simpa using hlen, .inr ⟨_, encodeEntry_wellFormed e', rfl⟩⟩

/-! ### The causes of the faults (R225 to R228) -/

section
variable {s t : State} {i : Instr}

/-- DISPATCH raises BAD_EVENT on a reserved head and no other fault. -/
theorem exec_dispatch_faults (hrun : s.faultM = 0#4) (hlen : s.q.length ≤ s.cfg.qdepth)
    (h : exec .dispatch s = .next t) :
    t.faultM = 0#4 ∨ (WheelsStopped t ∧ t.faultM = 8#4 ∧
      ∃ w rest, s.q = w :: rest ∧ EntryWord.wellFormed w = false ∧ t.q = rest) := by
  obtain ⟨_, w, rest, hq, ht⟩ := dispatch_next h
  cases hwf : EntryWord.wellFormed w with
  | true =>
    obtain ⟨e, he⟩ := (decodeEntry_isOk w).2 hwf
    rw [ht, runEntryWord, he]
    exact .inl ((handleEntry_after_dequeue hq hlen e).1.trans hrun)
  | false =>
    obtain rfl := Host.Outcome.next.inj (h.symm.trans ((reservedEntriesRaiseBadEvent s w rest).2 hrun hq hwf))
    exact .inr ⟨faulted_wheelsStopped _ _, faulted_faultM hrun _, w, rest, hq, hwf, rfl⟩

/-- EDGE raises CAPTURE_OVERRUN on a pending capture and no other fault. -/
theorem exec_edge_faults (hrun : s.faultM = 0#4) (h : exec .edge s = .next t) :
    t.faultM = 0#4 ∨ (WheelsStopped t ∧ t.faultM = 4#4 ∧ s.capPending = true ∧ t.capVal = s.capVal) := by
  obtain ⟨_, rfl⟩ := whileMotionRuns_next h
  cases hcap : s.capPending with
  | false => exact .inl (by simpa [captureEdge_of_free hcap] using hrun)
  | true =>
    rw [captureEdge_of_pending hcap]
    exact .inr ⟨faulted_wheelsStopped _ s, faulted_faultM hrun _, rfl, rfl⟩

/-- An instruction that can post raises QUEUE_OVERFLOW on a full queue and no other fault. -/
theorem exec_post_faults (hrun : s.faultM = 0#4) (hpost : canPost i = true) (h : exec i s = .next t) :
    t.faultM = 0#4 ∨ (WheelsStopped t ∧ t.faultM = 2#4 ∧ s.q.length = s.cfg.qdepth ∧ t.q = s.q) := by
  cases PostsOrOverflows.of_canPost hpost h with
  | silent _ hfault => exact .inl (hfault.trans hrun)
  | posted _ _ _ hfault => exact .inl (hfault.trans hrun)
  | overflowed hq hfull hfault hwheels =>
    exact .inr ⟨hwheels, by rw [hfault, hrun]; rfl, hfull, hq⟩

end

/-- Settles O51, by what the instruction is: one that can post, EDGE, DISPATCH, or one that raises no fault. -/
theorem faultsHaveTheirCauses : Obligations.FaultsHaveTheirCauses := by
  intro s t i hrun hlen hreset h
  by_cases hpost : canPost i = true
  · refine (exec_post_faults hrun hpost h).imp_right ?_
    rintro ⟨⟨hactL, hactR, hout⟩, hfault, hfull, hq⟩
    exact ⟨hactL, hactR, hout, .inl ⟨hfault, hfull, hq, hpost⟩⟩
  by_cases hedge : i = .edge
  · subst hedge
    refine (exec_edge_faults hrun h).imp_right ?_
    rintro ⟨⟨hactL, hactR, hout⟩, hfault, hcap, hval⟩
    exact ⟨hactL, hactR, hout, .inr (.inl ⟨hfault, rfl, hcap, hval⟩)⟩
  by_cases hdispatch : i = .dispatch
  · subst hdispatch
    refine (exec_dispatch_faults hrun hlen h).imp_right ?_
    rintro ⟨⟨hactL, hactR, hout⟩, hfault, hhead⟩
    exact ⟨hactL, hactR, hout, .inr (.inr ⟨hfault, rfl, hhead⟩)⟩
  exact .inl ((exec_faultM h (by simpa using hpost) hdispatch hedge hreset).trans hrun)

/-! ### The command chip (R239) -/

/-- The two machines have the same parameters and the same command chip, whatever their motion chips hold. -/
structure SameCommandChip (s s' : State) : Prop where
  cfg : s.cfg = s'.cfg
  rState : s.rState = s'.rState
  rHeld : s.rHeld = s'.rHeld
  faultC : s.faultC = s'.faultC

namespace SameCommandChip

variable {s s' t t' u : State} {i : Instr}

theorem symm (h : SameCommandChip s s') : SameCommandChip s' s :=
  ⟨h.cfg.symm, h.rState.symm, h.rHeld.symm, h.faultC.symm⟩

theorem trans (h₁ : SameCommandChip s t) (h₂ : SameCommandChip t u) : SameCommandChip s u :=
  ⟨h₁.cfg.trans h₂.cfg, h₁.rState.trans h₂.rState, h₁.rHeld.trans h₂.rHeld, h₁.faultC.trans h₂.faultC⟩

/-- A footprint outside the command chip leaves it as it is. -/
theorem of_changesOnly {W : Set RegGroup} (h : ChangesOnly W s t) (hstate : RegGroup.rState ∉ W)
    (hheld : RegGroup.rHeld ∉ W) (hfault : RegGroup.faultC ∉ W) : SameCommandChip t s where
  cfg := h.cfg
  rState := not_not.1 fun hne => hstate (h.within .rState hne)
  rHeld := not_not.1 fun hne => hheld (h.within .rHeld hne)
  faultC := not_not.1 fun hne => hfault (h.within .faultC hne)

/-- What each machine does afterwards on its own motion chip does not matter. -/
theorem lift (h : SameCommandChip s s') (ht : SameCommandChip t s) (ht' : SameCommandChip t' s') :
    SameCommandChip t t' := ht.trans (h.trans ht'.symm)

theorem pollerReceive (b : Byte) (s : State) : SameCommandChip (pollerReceive b s) s :=
  of_changesOnly (pollerReceive_changesOnly s b) (by simp) (by simp) (by simp)

/-- The exchange advances both link states alike, or neither where the command chips are halted. -/
theorem responderExchange (h : SameCommandChip s s') :
    SameCommandChip (responderExchange s).2 (responderExchange s').2 := by
  obtain ⟨hcfg, hstate, hheld, hfault⟩ := h
  rcases responderExchange_cases s with ⟨hrun, hex⟩ | ⟨hhalt, _, _, _, hex⟩ <;>
    rcases responderExchange_cases s' with ⟨hrun', hex'⟩ | ⟨hhalt', _, _, _, hex'⟩ <;> rw [hex, hex']
  · exact ⟨hcfg, congrArg advanceLink hstate, hheld, hfault⟩
  · exact absurd (hfault ▸ hrun) hhalt'
  · exact absurd (hfault ▸ hrun') hhalt
  · exact ⟨hcfg, hstate, hheld, hfault⟩

theorem acceptCommand (h : SameCommandChip s s') (k : CmdKind) :
    SameCommandChip (acceptCommand k s) (acceptCommand k s') := by
  by_cases hnew : s.cfg.code.byte k ≠ s.rHeld ∨ k = .stop
  · rw [acceptCommand_of_new hnew, acceptCommand_of_new (h.cfg ▸ h.rHeld ▸ hnew)]
    exact ⟨h.cfg, rfl, congrArg (·.code.byte k) h.cfg, h.faultC⟩
  · obtain ⟨hheld, hstop⟩ : s.cfg.code.byte k = s.rHeld ∧ k ≠ .stop := by simpa using hnew
    rw [acceptCommand_of_held hheld hstop, acceptCommand_of_held (h.cfg ▸ h.rHeld ▸ hheld) hstop]
    exact h

/-- The draw is settled, or free at its number, in both machines alike. -/
theorem drawInitOkC_eq (hin : s.initOkCIn = s'.initOkCIn) (hcount : s.drawCount = s'.drawCount) :
    (drawInitOkC s).1 = (drawInitOkC s').1 := by
  unfold drawInitOkC
  rw [hin, hcount]
  split <;> rfl

theorem commandReset (h : SameCommandChip s s') (hin : s.initOkCIn = s'.initOkCIn)
    (hcount : s.drawCount = s'.drawCount) :
    SameCommandChip (commandReset (drawInitOkC s).1 (drawInitOkC s).2)
      (commandReset (drawInitOkC s').1 (drawInitOkC s').2) := by
  have hcfg : (drawInitOkC s).2.cfg = (drawInitOkC s').2.cfg :=
    (drawInitOkC_changesOnly s).cfg.trans (h.cfg.trans (drawInitOkC_changesOnly s').cfg.symm)
  exact ⟨hcfg, rfl, congrArg (·.code.byte .stop) hcfg, congrArg faultCAfterReset (drawInitOkC_eq hin hcount)⟩

/-- POLL and POLL_NOISY: an exchange, then the Poller, which is on the motion chip. -/
theorem of_isPoll (hpoll : isPoll i = true) (h : exec i s = .next t) :
    SameCommandChip t (Machine.responderExchange s).2 := by
  cases i with
  | poll =>
    obtain ⟨_, rfl⟩ := whileMotionRuns_next h
    exact pollerReceive _ _
  | pollNoisy x =>
    obtain ⟨_, rfl⟩ := whileMotionRuns_next (pollNoisy_next h)
    exact pollerReceive x _
  | _ => cases hpoll

/-- Every other instruction of the motion chip leaves the command chip as it is. -/
theorem of_motion (hcmd : isCmdIn i = false) (hpoll : isPoll i = false) (hreset : i ≠ .resetC)
    (h : exec i s = .next t) : SameCommandChip t s :=
  of_changesOnly (exec_changesOnly_writers h) (by simp [hcmd, hpoll, hreset]) (by simp [hcmd, hreset])
    (by simp [hreset])

/-- The same instruction, where it completes at both, keeps the command chips the same. -/
theorem exec (h : SameCommandChip s s') (hin : s.initOkCIn = s'.initOkCIn) (hcount : s.drawCount = s'.drawCount)
    (ht : exec i s = .next t) (ht' : exec i s' = .next t') : SameCommandChip t t' := by
  by_cases hpoll : isPoll i = true
  · exact h.responderExchange.lift (of_isPoll hpoll ht) (of_isPoll hpoll ht')
  cases i with
  | cmdIn k =>
    obtain rfl := cmdIn_next ht
    obtain rfl := cmdIn_next ht'
    exact h.acceptCommand k
  | resetC =>
    obtain rfl := Host.Outcome.next.inj ht
    obtain rfl := Host.Outcome.next.inj ht'
    exact h.commandReset hin hcount
  | poll | pollNoisy _ => exact absurd rfl hpoll
  | _ => exact h.lift (of_motion rfl rfl (by simp) ht) (of_motion rfl rfl (by simp) ht')

end SameCommandChip

/-- Settles O53: what a completing instruction leaves in the command chip depends on the command chip alone. -/
theorem motionChipDoesNotReachTheCommandChip : Obligations.MotionChipDoesNotReachTheCommandChip := by
  intro s s' t t' i hcfg hstate hheld hfault hin hcount ht ht'
  obtain ⟨_, hstate', hheld', hfault'⟩ := SameCommandChip.exec ⟨hcfg, hstate, hheld, hfault⟩ hin hcount ht ht'
  exact ⟨hstate', hheld', hfault'⟩

end Sys2Proof.Machine

/-! ## Reset and hazards (70_reset_and_hazards.md)

Each reset as the record it leaves behind, for a settled and for a free draw; from these the schedules of a reset are
run: both resets in either order, and one chip's reset in the middle of a handshake. -/

namespace Sys2Proof.Machine

open Sys2Proof.Claims

/-! ### The draws of the configuration results (R263) -/

section
variable {s : State}

theorem drawInitOkM_of_settled {ok : Bool} {rest : List Bool} (h : s.initOkMIn = ok :: rest) :
    drawInitOkM s = (ok, { s with initOkMIn := rest }) := by
  simp [drawInitOkM, h]

theorem drawInitOkM_of_free (h : s.initOkMIn = []) :
    drawInitOkM s = (Config.initOkM s.drawCount, { s with drawCount := s.drawCount + 1 }) := by
  simp [drawInitOkM, h]

theorem drawInitOkC_of_settled {ok : Bool} {rest : List Bool} (h : s.initOkCIn = ok :: rest) :
    drawInitOkC s = (ok, { s with initOkCIn := rest }) := by
  simp [drawInitOkC, h]

theorem drawInitOkC_of_free (h : s.initOkCIn = []) :
    drawInitOkC s = (Config.initOkC s.drawCount, { s with drawCount := s.drawCount + 1 }) := by
  simp [drawInitOkC, h]

/-! ### The two resets (R260, R261) -/

theorem motionReset_eq_motionCleared (ok : Bool) (s : State) :
    motionReset ok s = motionCleared (if ok then 0#4 else 1#4) s := rfl

theorem commandReset_eq_commandCleared (ok : Bool) (s : State) :
    commandReset ok s = commandCleared (if ok then 0#1 else 1#1) s := rfl

/-- RESET_M with a settled draw leaves the cleared motion chip and one settled draw less. -/
theorem exec_resetM_of_settled {ok : Bool} {rest : List Bool} (h : s.initOkMIn = ok :: rest) :
    exec .resetM s = .next { motionCleared (if ok then 0#4 else 1#4) s with initOkMIn := rest } := by
  rw [exec, execResetM, drawInitOkM_of_settled h, motionReset_eq_motionCleared]
  rfl

theorem exec_resetM_of_free (h : s.initOkMIn = []) :
    exec .resetM s = .next
      { motionCleared (if Config.initOkM s.drawCount then 0#4 else 1#4) s with drawCount := s.drawCount + 1 } := by
  rw [exec, execResetM, drawInitOkM_of_free h, motionReset_eq_motionCleared]
  rfl

/-- RESET_C with a settled draw leaves the cleared command chip and one settled draw less. -/
theorem exec_resetC_of_settled {ok : Bool} {rest : List Bool} (h : s.initOkCIn = ok :: rest) :
    exec .resetC s = .next { commandCleared (if ok then 0#1 else 1#1) s with initOkCIn := rest } := by
  rw [exec, execResetC, drawInitOkC_of_settled h, commandReset_eq_commandCleared]
  rfl

theorem exec_resetC_of_free (h : s.initOkCIn = []) :
    exec .resetC s = .next
      { commandCleared (if Config.initOkC s.drawCount then 0#1 else 1#1) s with drawCount := s.drawCount + 1 } := by
  rw [exec, execResetC, drawInitOkC_of_free h, commandReset_eq_commandCleared]
  rfl

end

/-- Settles O47, by the two cases of the draw. -/
theorem resetMClearsTheMotionChip : Obligations.ResetMClearsTheMotionChip :=
  fun _ => ⟨rfl, fun _ _ hin => exec_resetM_of_settled hin, fun hin => ⟨_, exec_resetM_of_free hin⟩⟩

/-- Settles O48, by the two cases of the draw. -/
theorem resetCClearsTheCommandChip : Obligations.ResetCClearsTheCommandChip :=
  fun _ => ⟨rfl, fun _ _ hin => exec_resetC_of_settled hin, fun hin => ⟨_, exec_resetC_of_free hin⟩⟩

/-! ### A reset in mid-handshake (R271) -/

section
variable {s : State} {rest : List Bool}

/-- RESET_C behind an armed latch: the next POLL takes the reset command, STOP, for the payload of the old flag. -/
theorem runOps_resetC_poll_of_latched (hlegal : s.cfg.code.Legal) (hrun : s.faultM = 0#4) (hlatch : s.pLatch = true)
    (hin : s.initOkCIn = true :: rest) (hfwd : s.cfg.suppressEqualAfterFlag = false)
    (hroom : s.q.length ≠ s.cfg.qdepth) :
    runOps [.resetC, .poll] s = .next
      { commandCleared 0#1 s with
        initOkCIn := rest
        q := s.q ++ [entryOf 1 (s.cfg.code.byte .stop).toNat 0]
        pLast := s.cfg.code.byte .stop
        pLatch := false } := by
  have hpoll := exec_poll_of_not_flagQueued (s := { commandCleared 0#1 s with initOkCIn := rest }) hrun rfl
    (by simp [commandCleared])
  rw [runOps_cons (exec_resetC_of_settled hin), if_pos rfl, runOps_cons hpoll, runOps]
  exact congrArg _ (pollerReceive_forwards (classify_byte hlegal .stop) hlatch (.inl hfwd) hroom)

/-- RESET_M between flag and payload: the latch is gone, so that the payload is taken off the link and ignored. -/
theorem runOps_resetM_poll_of_payloadQueued (hrunC : s.faultC = 0#1) (hstate : s.rState = .payloadQueued)
    (hheld : s.rHeld ≠ 0xFF#8) (hin : s.initOkMIn = true :: rest) :
    runOps [.resetM, .poll] s = .next
      { motionCleared 0#4 s with initOkMIn := rest, rState := .awaitingCommand } := by
  have hpoll := exec_poll_of_not_flagQueued (s := { motionCleared 0#4 s with initOkMIn := rest }) rfl hrunC
    (by simp [motionCleared, hstate])
  rw [runOps_cons (exec_resetM_of_settled hin), if_pos rfl, runOps_cons hpoll, runOps]
  exact congrArg _ (pollerReceive_of_unlatched hheld rfl)

/-- RESET_M before the flag is taken: the flag arms the cleared latch, and the payload is posted. -/
theorem runOps_resetM_polls_of_flagQueued {k : CmdKind} (hlegal : s.cfg.code.Legal) (hdepth : 1 ≤ s.cfg.qdepth)
    (hrunC : s.faultC = 0#1) (hstate : s.rState = .flagQueued) (hheld : s.rHeld = s.cfg.code.byte k)
    (hfwd : s.cfg.suppressEqualAfterFlag = false) (hin : s.initOkMIn = true :: rest) :
    runOps [.resetM, .poll, .poll] s = .next
      { motionCleared 0#4 s with
        initOkMIn := rest
        rState := .awaitingCommand
        q := [entryOf 1 s.rHeld.toNat 0]
        pLast := s.rHeld
        pLatch := false } := by
  have hflag := exec_poll_of_flagQueued (s := { motionCleared 0#4 s with initOkMIn := rest }) rfl hrunC hstate
  have hpayload := exec_poll_of_not_flagQueued
    (s := { motionCleared 0#4 s with initOkMIn := rest, rState := .payloadQueued, pLatch := true }) rfl hrunC (by simp)
  have hcode : classify s.cfg.code s.rHeld = .cmd k := by rw [hheld, classify_byte hlegal]
  have hroom : ([] : List EntryWord).length ≠ s.cfg.qdepth := (Nat.ne_of_gt hdepth).symm
  rw [runOps_cons (exec_resetM_of_settled hin), if_pos rfl, runOps_cons hflag, runOps_cons hpayload, runOps]
  exact congrArg _ (pollerReceive_forwards hcode rfl (.inl hfwd) hroom)

end

/-- Settles O29, by the three states in which a reset can meet the handshake. -/
theorem independentResetsMidHandshake : Obligations.IndependentResetsMidHandshake := by
  intro s hlegal hdepth hrun hrunC
  refine ⟨fun rest hlatch hin hfwd hroom => ?_, fun rest hstate hheld hin => ?_,
    fun rest k hstate hheld hfwd hin => ?_⟩
  · exact ⟨_, runOps_resetC_poll_of_latched hlegal hrun hlatch hin hfwd hroom, rfl, rfl⟩
  · exact ⟨_, runOps_resetM_poll_of_payloadQueued hrunC hstate hheld hin, rfl, rfl, rfl, rfl⟩
  · exact ⟨_, runOps_resetM_polls_of_flagQueued hlegal hdepth hrunC hstate hheld hfwd hin, rfl, rfl, rfl⟩

/-! ### Power-on (R262) -/

/-- Settles O49: the resets write disjoint registers, so that their order does not matter. -/
theorem powerOnIsBothResetsInEitherOrder : Obligations.PowerOnIsBothResetsInEitherOrder := by
  intro s m c ms cs hm hc
  have hresetC := exec_resetC_of_settled (s := { motionCleared (if m then 0#4 else 1#4) s with initOkMIn := ms }) hc
  have hresetM := exec_resetM_of_settled (s := { commandCleared (if c then 0#1 else 1#1) s with initOkCIn := cs }) hm
  constructor
  · rw [runOps_cons (exec_resetM_of_settled hm), runOps_cons hresetC]
    rfl
  · rw [runOps_cons (exec_resetC_of_settled hc), runOps_cons hresetM]
    rfl

/-- The base case of the machine's invariant. -/
theorem machineInv_powerOn {c : Config} (hlegal : c.Legal) (beacon tape okM okC : Bool) :
    MachineInv (State.powerOn c beacon tape okM okC) where
  legal := hlegal
  registers := ⟨Nat.two_pow_pos _, Nat.two_pow_pos _, Nat.two_pow_pos _, Nat.two_pow_pos _, stopped_speed_le _,
    stopped_speed_le _⟩
  queue := ⟨Nat.zero_le _, fun _ hw => absurd hw List.not_mem_nil⟩
  quiet _ := ⟨rfl, rfl, rfl⟩
  timer := nofun
  engine := ⟨nofun, fun _ => rfl⟩
  codes := ⟨⟨.stop, rfl⟩, .stop, rfl⟩
  events := faultMAfterReset_and_badEvent okM

/-- Settles O55; State.reset is the power-on of RC1, which is legal. -/
theorem powerOnHasTheInvariant : Obligations.PowerOnHasTheInvariant :=
  ⟨fun _ beacon tape okM okC hlegal => machineInv_powerOn hlegal beacon tape okM okC,
    machineInv_powerOn (by decide) _ _ _ _⟩

end Sys2Proof.Machine
